-- ==== Sys2Proof/Word.lean ====
section
/-!
DEFINITION. The two word types of the machine and the plainest operations on them
(`00_scope.md` R6, R9): bytes, 16-bit words, `lo`, `hi`, `word`, `sext_8`.
-/

namespace Sys2Proof

/-- An 8-bit bus, register or operand value (R6, R80). -/
abbrev Byte := BitVec 8

/-- A 16-bit CPU address (R6, R80). -/
abbrev Word := BitVec 16

/-- `lo(w) = w[7:0]` (R9). -/
def lo (w : Word) : Byte := w.extractLsb' 0 8

/-- `hi(w) = w[15:8]` (R9). -/
def hi (w : Word) : Byte := w.extractLsb' 8 8

/-- `word(h, l) = h :: l`, the high byte first (R9). -/
def word (h l : Byte) : Word := h ++ l

/-- A byte read as an unsigned 16-bit number, `zext_16` (R9, R136). -/
def zext16 (b : Byte) : Word := b.setWidth 16

/-- The signed value of a byte as a 16-bit word, `sext_8` (R9, R147). -/
def sext16 (b : Byte) : Word := b.signExtend 16

end Sys2Proof
end

