-- ==== Sys2Proof/Config.lean ====
section
/-!
DEFINITION. What one machine fixes: the parameters of `00_scope.md` R7 and of
`93_implementation_defined.md` U2 and U4 as plain data with the values the spec takes, and the
free values: opaque constants without a body for what the spec leaves to "any value" (U3, U6, U13).
-/

namespace Sys2Proof

/-- One picture element of the output buffer, in the buffer's order R, G, B, A (R42, R352). -/
structure Rgba where
  r : Byte
  g : Byte
  b : Byte
  a : Byte
deriving DecidableEq, Repr, Inhabited

/-- The parameter `ISA_TIER` (U2): with `base` the 27 opcodes of tier `cmos` join the undefined ones. -/
inductive IsaTier where
  | base
  | baseAndCmos
deriving DecidableEq, Repr, Inhabited

/-- What an addition or subtraction leaves in `A`, `N`, `Z`, `C`, `V` (R220 to R223). -/
structure AluResult where
  value : Byte
  n : Bool
  z : Bool
  c : Bool
  v : Bool
deriving DecidableEq, Repr, Inhabited

/-- The four answers of one attachment to one poll of its control lines (R540, R560). -/
structure Requests where
  ca1 : Bool
  ca2 : Bool
  cb1 : Bool
  cb2 : Bool
deriving DecidableEq, Repr, Inhabited

/-- The parameters of the model (R7). They are data of the machine's state that no step changes
(log entry 1), so what is proved for every state is proved for every value of them. -/
structure Params where
  /-- `CPU_FREQ_HZ`. -/
  cpuFreqHz : Nat
  /-- `TICK_INTERVAL`. -/
  tickInterval : Nat
  /-- `CART_PRESENT`. -/
  cartPresent : Bool
  /-- `BASE_CYCLES[256]`, indexed by the opcode byte. -/
  baseCycles : List Nat
  /-- `TOTAL_SCANLINES`. -/
  totalScanlines : Nat
  /-- `FRAME_RATE_HZ`. -/
  frameRateHz : Nat
  /-- `PALETTE[16]`. -/
  palette : List Rgba
  /-- `SID_CLOCK_HZ`. -/
  sidClockHz : Nat
  /-- `SAMPLE_RATE_HZ`. -/
  sampleRateHz : Nat
  /-- `ATTACK_PERIOD[16]`. -/
  attackPeriod : List Nat
  /-- `DECAY_RELEASE_PERIOD[16]`. -/
  decayReleasePeriod : List Nat
  /-- `SUSTAIN_LEVEL[16]`, indexed by the sustain nibble. -/
  sustainLevel : List Byte
  /-- `CUTOFF_HZ(fc)` for the 2048 values of `fc`. -/
  cutoffHz : List Rat
  /-- `AUDIO_BUFFER_LEN`; "not observable in the sample sequence" (R7, R491), read by nothing. -/
  audioBufferLen : Nat
  /-- `VIA_TICK_EVERY_CYCLE`: the VIA is clocked every CPU cycle, not with the coarse ticks (C3; log
  entry 20). -/
  viaTickEveryCycle : Bool
  /-- The rational that stands for π in the filter (DESIGN CHOICE, log entry 13). -/
  piApprox : Rat
  /-- `ISA_TIER` (U2). -/
  isaTier : IsaTier
  /-- `DECIMAL_IMPLEMENTED` (U4). -/
  decimalImplemented : Bool
deriving DecidableEq, Repr

/-- The cycle table of R160, one line per high nibble of the opcode. -/
def defaultBaseCycles : List Nat :=
  [7, 6, 1, 1, 5, 3, 5, 1, 3, 2, 2, 1, 6, 4, 6, 1] ++
  [2, 5, 5, 1, 5, 4, 6, 1, 2, 4, 2, 1, 6, 4, 7, 1] ++
  [6, 6, 1, 1, 3, 3, 5, 1, 4, 2, 2, 1, 4, 4, 6, 1] ++
  [2, 5, 5, 1, 4, 4, 6, 1, 2, 4, 2, 1, 4, 4, 7, 1] ++
  [6, 6, 1, 1, 1, 3, 5, 1, 3, 2, 2, 1, 3, 4, 6, 1] ++
  [2, 5, 5, 1, 1, 4, 6, 1, 2, 4, 3, 1, 1, 4, 7, 1] ++
  [6, 6, 1, 1, 3, 3, 5, 1, 4, 2, 2, 1, 6, 4, 6, 1] ++
  [2, 5, 5, 1, 4, 4, 6, 1, 2, 4, 4, 1, 6, 4, 7, 1] ++
  [2, 6, 1, 1, 3, 3, 3, 1, 2, 2, 2, 1, 4, 4, 4, 1] ++
  [2, 6, 5, 1, 4, 4, 4, 1, 2, 5, 2, 1, 4, 5, 5, 1] ++
  [2, 6, 2, 1, 3, 3, 3, 1, 2, 2, 2, 1, 4, 4, 4, 1] ++
  [2, 5, 5, 1, 4, 4, 4, 1, 2, 4, 2, 1, 4, 4, 4, 1] ++
  [2, 6, 1, 1, 3, 3, 5, 1, 2, 2, 2, 1, 4, 4, 6, 1] ++
  [2, 5, 5, 1, 1, 4, 6, 1, 2, 4, 3, 1, 1, 4, 7, 1] ++
  [2, 6, 1, 1, 3, 3, 5, 1, 2, 2, 2, 1, 4, 4, 6, 1] ++
  [2, 5, 5, 1, 1, 4, 6, 1, 2, 4, 4, 1, 1, 4, 7, 1]

/-- An opaque colour. -/
def opaqueRgb (r g b : Byte) : Rgba := ⟨r, g, b, 0xFF#8⟩

/-- The palette of R352. -/
def defaultPalette : List Rgba :=
  [opaqueRgb 0x00#8 0x00#8 0x00#8, opaqueRgb 0x00#8 0x00#8 0x00#8,
   opaqueRgb 0x21#8 0xC9#8 0x42#8, opaqueRgb 0x5E#8 0xDC#8 0x78#8,
   opaqueRgb 0x54#8 0x55#8 0xED#8, opaqueRgb 0x7D#8 0x75#8 0xFC#8,
   opaqueRgb 0xD3#8 0x52#8 0x4D#8, opaqueRgb 0x43#8 0xEB#8 0xF6#8] ++
  [opaqueRgb 0xFD#8 0x55#8 0x54#8, opaqueRgb 0xFF#8 0x79#8 0x78#8,
   opaqueRgb 0xD3#8 0xC1#8 0x53#8, opaqueRgb 0xE5#8 0xCE#8 0x80#8,
   opaqueRgb 0x21#8 0xB0#8 0x3C#8, opaqueRgb 0xC9#8 0x5B#8 0xBA#8,
   opaqueRgb 0xCC#8 0xCC#8 0xCC#8, opaqueRgb 0xFF#8 0xFF#8 0xFF#8]

/-- The rate table of R462, in SID cycles per step. -/
def defaultRatePeriod : List Nat :=
  [9, 32, 63, 95, 149, 220, 267, 313, 392, 977, 1954, 3126, 3907, 11720, 19532, 31251]

/-- `SUSTAIN_LEVEL[n] = n * 0x11` (R464). -/
def defaultSustainLevel : List Byte := (List.range 16).map fun n => BitVec.ofNat 8 (n * 0x11)

/-- The default cutoff curve of R481: `30 + 5.8 * fc` hertz. -/
def defaultCutoffHz (fc : Nat) : Rat := 30 + 29 * (fc : Rat) / 5

/-- The values R7 takes. `cartPresent` is OPEN in R7 and false here (log entry 2);
`audioBufferLen` is OPEN and unread (log entry 33); `piApprox` is π to fifteen decimals (log entry 13). -/
def Params.standard : Params where
  cpuFreqHz := 2000000
  tickInterval := 128
  cartPresent := false
  baseCycles := defaultBaseCycles
  totalScanlines := 262
  frameRateHz := 60
  palette := defaultPalette
  sidClockHz := 1000000
  sampleRateHz := 44100
  attackPeriod := defaultRatePeriod
  decayReleasePeriod := defaultRatePeriod
  sustainLevel := defaultSustainLevel
  cutoffHz := (List.range 2048).map defaultCutoffHz
  audioBufferLen := 1024
  viaTickEveryCycle := true
  piApprox := 3141592653589793 / 1000000000000000
  isaTier := .baseAndCmos
  decimalImplemented := true

/-- The byte a card outside CORE returns when nothing is listed for the access: slot, offset in the
window as decoded (R85), and how many such bytes were drawn before (U13, R580). FREE VALUE. -/
opaque Config.slotByte : (slot offset drawn : Nat) → Byte

/-- What an attachment answers to `isEnabled()` when nothing is listed (U13, R560). FREE VALUE. -/
opaque Config.attachEnabled : (drawn : Nat) → Bool

/-- What an attachment answers to a port read when nothing is listed (U13, R560). FREE VALUE. -/
opaque Config.attachByte : (drawn : Nat) → Byte

/-- What an attachment answers to a poll when nothing is listed (U13, R560). FREE VALUE. -/
opaque Config.attachRequests : (drawn : Nat) → Requests

/-- `A`, `N`, `Z`, `C`, `V` after ADC or SBC with `D = 1` and a digit above 9 (U3). FREE VALUE. -/
opaque Config.bcdResult : (drawn : Nat) → AluResult

/-- The picture element at column `x` of a line rendered with M1 and M2 both set (U6). FREE VALUE. -/
opaque Config.freePixel : (drawn x : Nat) → Rgba

end Sys2Proof
end

