-- ==== Sys2Proof/Syntax.lean ====
section
/-!
DEFINITION. The instructions: one constructor per row of `spec/opcode_table.json`, that is one per
opcode byte (`30_encoding.md` R150, R153). A constructor holds the operand bytes its addressing mode
fetches (R133 to R147): one byte, one little-endian word, or none; so every term is well formed.
The constructors with an operand stand first, those without after them, each in opcode order. The 78
undefined opcode bytes (R153) are instructions too: `nopUnk02` to `nopUnkFF`.
-/

namespace Sys2Proof

/-- One constructor per opcode byte (R150, R153). -/
inductive Instr where
  /-- `01`: ORA (zp,X) -/
  | oraIndX (a : Byte)
  /-- `04`: TSB zp -/
  | tsbZp (a : Byte)
  /-- `05`: ORA zp -/
  | oraZp (a : Byte)
  /-- `06`: ASL zp -/
  | aslZp (a : Byte)
  /-- `09`: ORA # -/
  | oraImm (v : Byte)
  /-- `0C`: TSB abs -/
  | tsbAbs (a : Word)
  /-- `0D`: ORA abs -/
  | oraAbs (a : Word)
  /-- `0E`: ASL abs -/
  | aslAbs (a : Word)
  /-- `10`: BPL rel -/
  | bpl (d : Byte)
  /-- `11`: ORA (zp),Y -/
  | oraIndY (a : Byte)
  /-- `12`: ORA (zp) -/
  | oraZpInd (a : Byte)
  /-- `14`: TRB zp -/
  | trbZp (a : Byte)
  /-- `15`: ORA zp,X -/
  | oraZpX (a : Byte)
  /-- `16`: ASL zp,X -/
  | aslZpX (a : Byte)
  /-- `19`: ORA abs,Y -/
  | oraAbsY (a : Word)
  /-- `1C`: TRB abs -/
  | trbAbs (a : Word)
  /-- `1D`: ORA abs,X -/
  | oraAbsX (a : Word)
  /-- `1E`: ASL abs,X -/
  | aslAbsX (a : Word)
  /-- `20`: JSR abs -/
  | jsr (a : Word)
  /-- `21`: AND (zp,X) -/
  | andIndX (a : Byte)
  /-- `24`: BIT zp -/
  | bitZp (a : Byte)
  /-- `25`: AND zp -/
  | andZp (a : Byte)
  /-- `26`: ROL zp -/
  | rolZp (a : Byte)
  /-- `29`: AND # -/
  | andImm (v : Byte)
  /-- `2C`: BIT abs -/
  | bitAbs (a : Word)
  /-- `2D`: AND abs -/
  | andAbs (a : Word)
  /-- `2E`: ROL abs -/
  | rolAbs (a : Word)
  /-- `30`: BMI rel -/
  | bmi (d : Byte)
  /-- `31`: AND (zp),Y -/
  | andIndY (a : Byte)
  /-- `32`: AND (zp) -/
  | andZpInd (a : Byte)
  /-- `34`: BIT zp,X -/
  | bitZpX (a : Byte)
  /-- `35`: AND zp,X -/
  | andZpX (a : Byte)
  /-- `36`: ROL zp,X -/
  | rolZpX (a : Byte)
  /-- `39`: AND abs,Y -/
  | andAbsY (a : Word)
  /-- `3C`: BIT abs,X -/
  | bitAbsX (a : Word)
  /-- `3D`: AND abs,X -/
  | andAbsX (a : Word)
  /-- `3E`: ROL abs,X -/
  | rolAbsX (a : Word)
  /-- `41`: EOR (zp,X) -/
  | eorIndX (a : Byte)
  /-- `45`: EOR zp -/
  | eorZp (a : Byte)
  /-- `46`: LSR zp -/
  | lsrZp (a : Byte)
  /-- `49`: EOR # -/
  | eorImm (v : Byte)
  /-- `4C`: JMP abs -/
  | jmpAbs (a : Word)
  /-- `4D`: EOR abs -/
  | eorAbs (a : Word)
  /-- `4E`: LSR abs -/
  | lsrAbs (a : Word)
  /-- `50`: BVC rel -/
  | bvc (d : Byte)
  /-- `51`: EOR (zp),Y -/
  | eorIndY (a : Byte)
  /-- `52`: EOR (zp) -/
  | eorZpInd (a : Byte)
  /-- `55`: EOR zp,X -/
  | eorZpX (a : Byte)
  /-- `56`: LSR zp,X -/
  | lsrZpX (a : Byte)
  /-- `59`: EOR abs,Y -/
  | eorAbsY (a : Word)
  /-- `5D`: EOR abs,X -/
  | eorAbsX (a : Word)
  /-- `5E`: LSR abs,X -/
  | lsrAbsX (a : Word)
  /-- `61`: ADC (zp,X) -/
  | adcIndX (a : Byte)
  /-- `64`: STZ zp -/
  | stzZp (a : Byte)
  /-- `65`: ADC zp -/
  | adcZp (a : Byte)
  /-- `66`: ROR zp -/
  | rorZp (a : Byte)
  /-- `69`: ADC # -/
  | adcImm (v : Byte)
  /-- `6C`: JMP (abs) -/
  | jmpInd (a : Word)
  /-- `6D`: ADC abs -/
  | adcAbs (a : Word)
  /-- `6E`: ROR abs -/
  | rorAbs (a : Word)
  /-- `70`: BVS rel -/
  | bvs (d : Byte)
  /-- `71`: ADC (zp),Y -/
  | adcIndY (a : Byte)
  /-- `72`: ADC (zp) -/
  | adcZpInd (a : Byte)
  /-- `74`: STZ zp,X -/
  | stzZpX (a : Byte)
  /-- `75`: ADC zp,X -/
  | adcZpX (a : Byte)
  /-- `76`: ROR zp,X -/
  | rorZpX (a : Byte)
  /-- `79`: ADC abs,Y -/
  | adcAbsY (a : Word)
  /-- `7C`: JMP (abs,X) -/
  | jmpAbsIndX (a : Word)
  /-- `7D`: ADC abs,X -/
  | adcAbsX (a : Word)
  /-- `7E`: ROR abs,X -/
  | rorAbsX (a : Word)
  /-- `80`: BRA rel -/
  | bra (d : Byte)
  /-- `81`: STA (zp,X) -/
  | staIndX (a : Byte)
  /-- `84`: STY zp -/
  | styZp (a : Byte)
  /-- `85`: STA zp -/
  | staZp (a : Byte)
  /-- `86`: STX zp -/
  | stxZp (a : Byte)
  /-- `89`: BIT # -/
  | bitImm (v : Byte)
  /-- `8C`: STY abs -/
  | styAbs (a : Word)
  /-- `8D`: STA abs -/
  | staAbs (a : Word)
  /-- `8E`: STX abs -/
  | stxAbs (a : Word)
  /-- `90`: BCC rel -/
  | bcc (d : Byte)
  /-- `91`: STA (zp),Y -/
  | staIndY (a : Byte)
  /-- `92`: STA (zp) -/
  | staZpInd (a : Byte)
  /-- `94`: STY zp,X -/
  | styZpX (a : Byte)
  /-- `95`: STA zp,X -/
  | staZpX (a : Byte)
  /-- `96`: STX zp,Y -/
  | stxZpY (a : Byte)
  /-- `99`: STA abs,Y -/
  | staAbsY (a : Word)
  /-- `9C`: STZ abs -/
  | stzAbs (a : Word)
  /-- `9D`: STA abs,X -/
  | staAbsX (a : Word)
  /-- `9E`: STZ abs,X -/
  | stzAbsX (a : Word)
  /-- `A0`: LDY # -/
  | ldyImm (v : Byte)
  /-- `A1`: LDA (zp,X) -/
  | ldaIndX (a : Byte)
  /-- `A2`: LDX # -/
  | ldxImm (v : Byte)
  /-- `A4`: LDY zp -/
  | ldyZp (a : Byte)
  /-- `A5`: LDA zp -/
  | ldaZp (a : Byte)
  /-- `A6`: LDX zp -/
  | ldxZp (a : Byte)
  /-- `A9`: LDA # -/
  | ldaImm (v : Byte)
  /-- `AC`: LDY abs -/
  | ldyAbs (a : Word)
  /-- `AD`: LDA abs -/
  | ldaAbs (a : Word)
  /-- `AE`: LDX abs -/
  | ldxAbs (a : Word)
  /-- `B0`: BCS rel -/
  | bcs (d : Byte)
  /-- `B1`: LDA (zp),Y -/
  | ldaIndY (a : Byte)
  /-- `B2`: LDA (zp) -/
  | ldaZpInd (a : Byte)
  /-- `B4`: LDY zp,X -/
  | ldyZpX (a : Byte)
  /-- `B5`: LDA zp,X -/
  | ldaZpX (a : Byte)
  /-- `B6`: LDX zp,Y -/
  | ldxZpY (a : Byte)
  /-- `B9`: LDA abs,Y -/
  | ldaAbsY (a : Word)
  /-- `BC`: LDY abs,X -/
  | ldyAbsX (a : Word)
  /-- `BD`: LDA abs,X -/
  | ldaAbsX (a : Word)
  /-- `BE`: LDX abs,Y -/
  | ldxAbsY (a : Word)
  /-- `C0`: CPY # -/
  | cpyImm (v : Byte)
  /-- `C1`: CMP (zp,X) -/
  | cmpIndX (a : Byte)
  /-- `C4`: CPY zp -/
  | cpyZp (a : Byte)
  /-- `C5`: CMP zp -/
  | cmpZp (a : Byte)
  /-- `C6`: DEC zp -/
  | decZp (a : Byte)
  /-- `C9`: CMP # -/
  | cmpImm (v : Byte)
  /-- `CC`: CPY abs -/
  | cpyAbs (a : Word)
  /-- `CD`: CMP abs -/
  | cmpAbs (a : Word)
  /-- `CE`: DEC abs -/
  | decAbs (a : Word)
  /-- `D0`: BNE rel -/
  | bne (d : Byte)
  /-- `D1`: CMP (zp),Y -/
  | cmpIndY (a : Byte)
  /-- `D2`: CMP (zp) -/
  | cmpZpInd (a : Byte)
  /-- `D5`: CMP zp,X -/
  | cmpZpX (a : Byte)
  /-- `D6`: DEC zp,X -/
  | decZpX (a : Byte)
  /-- `D9`: CMP abs,Y -/
  | cmpAbsY (a : Word)
  /-- `DD`: CMP abs,X -/
  | cmpAbsX (a : Word)
  /-- `DE`: DEC abs,X -/
  | decAbsX (a : Word)
  /-- `E0`: CPX # -/
  | cpxImm (v : Byte)
  /-- `E1`: SBC (zp,X) -/
  | sbcIndX (a : Byte)
  /-- `E4`: CPX zp -/
  | cpxZp (a : Byte)
  /-- `E5`: SBC zp -/
  | sbcZp (a : Byte)
  /-- `E6`: INC zp -/
  | incZp (a : Byte)
  /-- `E9`: SBC # -/
  | sbcImm (v : Byte)
  /-- `EC`: CPX abs -/
  | cpxAbs (a : Word)
  /-- `ED`: SBC abs -/
  | sbcAbs (a : Word)
  /-- `EE`: INC abs -/
  | incAbs (a : Word)
  /-- `F0`: BEQ rel -/
  | beq (d : Byte)
  /-- `F1`: SBC (zp),Y -/
  | sbcIndY (a : Byte)
  /-- `F2`: SBC (zp) -/
  | sbcZpInd (a : Byte)
  /-- `F5`: SBC zp,X -/
  | sbcZpX (a : Byte)
  /-- `F6`: INC zp,X -/
  | incZpX (a : Byte)
  /-- `F9`: SBC abs,Y -/
  | sbcAbsY (a : Word)
  /-- `FD`: SBC abs,X -/
  | sbcAbsX (a : Word)
  /-- `FE`: INC abs,X -/
  | incAbsX (a : Word)
  /-- `00`: BRK -/
  | brk
  /-- `02`: NOP_UNK $02 -/
  | nopUnk02
  /-- `03`: NOP_UNK $03 -/
  | nopUnk03
  /-- `07`: NOP_UNK $07 -/
  | nopUnk07
  /-- `08`: PHP -/
  | php
  /-- `0A`: ASL A -/
  | aslA
  /-- `0B`: NOP_UNK $0B -/
  | nopUnk0B
  /-- `0F`: NOP_UNK $0F -/
  | nopUnk0F
  /-- `13`: NOP_UNK $13 -/
  | nopUnk13
  /-- `17`: NOP_UNK $17 -/
  | nopUnk17
  /-- `18`: CLC -/
  | clc
  /-- `1A`: INC A -/
  | incA
  /-- `1B`: NOP_UNK $1B -/
  | nopUnk1B
  /-- `1F`: NOP_UNK $1F -/
  | nopUnk1F
  /-- `22`: NOP_UNK $22 -/
  | nopUnk22
  /-- `23`: NOP_UNK $23 -/
  | nopUnk23
  /-- `27`: NOP_UNK $27 -/
  | nopUnk27
  /-- `28`: PLP -/
  | plp
  /-- `2A`: ROL A -/
  | rolA
  /-- `2B`: NOP_UNK $2B -/
  | nopUnk2B
  /-- `2F`: NOP_UNK $2F -/
  | nopUnk2F
  /-- `33`: NOP_UNK $33 -/
  | nopUnk33
  /-- `37`: NOP_UNK $37 -/
  | nopUnk37
  /-- `38`: SEC -/
  | sec
  /-- `3A`: DEC A -/
  | decA
  /-- `3B`: NOP_UNK $3B -/
  | nopUnk3B
  /-- `3F`: NOP_UNK $3F -/
  | nopUnk3F
  /-- `40`: RTI -/
  | rti
  /-- `42`: NOP_UNK $42 -/
  | nopUnk42
  /-- `43`: NOP_UNK $43 -/
  | nopUnk43
  /-- `44`: NOP_UNK $44 -/
  | nopUnk44
  /-- `47`: NOP_UNK $47 -/
  | nopUnk47
  /-- `48`: PHA -/
  | pha
  /-- `4A`: LSR A -/
  | lsrA
  /-- `4B`: NOP_UNK $4B -/
  | nopUnk4B
  /-- `4F`: NOP_UNK $4F -/
  | nopUnk4F
  /-- `53`: NOP_UNK $53 -/
  | nopUnk53
  /-- `54`: NOP_UNK $54 -/
  | nopUnk54
  /-- `57`: NOP_UNK $57 -/
  | nopUnk57
  /-- `58`: CLI -/
  | cli
  /-- `5A`: PHY -/
  | phy
  /-- `5B`: NOP_UNK $5B -/
  | nopUnk5B
  /-- `5C`: NOP_UNK $5C -/
  | nopUnk5C
  /-- `5F`: NOP_UNK $5F -/
  | nopUnk5F
  /-- `60`: RTS -/
  | rts
  /-- `62`: NOP_UNK $62 -/
  | nopUnk62
  /-- `63`: NOP_UNK $63 -/
  | nopUnk63
  /-- `67`: NOP_UNK $67 -/
  | nopUnk67
  /-- `68`: PLA -/
  | pla
  /-- `6A`: ROR A -/
  | rorA
  /-- `6B`: NOP_UNK $6B -/
  | nopUnk6B
  /-- `6F`: NOP_UNK $6F -/
  | nopUnk6F
  /-- `73`: NOP_UNK $73 -/
  | nopUnk73
  /-- `77`: NOP_UNK $77 -/
  | nopUnk77
  /-- `78`: SEI -/
  | sei
  /-- `7A`: PLY -/
  | ply
  /-- `7B`: NOP_UNK $7B -/
  | nopUnk7B
  /-- `7F`: NOP_UNK $7F -/
  | nopUnk7F
  /-- `82`: NOP_UNK $82 -/
  | nopUnk82
  /-- `83`: NOP_UNK $83 -/
  | nopUnk83
  /-- `87`: NOP_UNK $87 -/
  | nopUnk87
  /-- `88`: DEY -/
  | dey
  /-- `8A`: TXA -/
  | txa
  /-- `8B`: NOP_UNK $8B -/
  | nopUnk8B
  /-- `8F`: NOP_UNK $8F -/
  | nopUnk8F
  /-- `93`: NOP_UNK $93 -/
  | nopUnk93
  /-- `97`: NOP_UNK $97 -/
  | nopUnk97
  /-- `98`: TYA -/
  | tya
  /-- `9A`: TXS -/
  | txs
  /-- `9B`: NOP_UNK $9B -/
  | nopUnk9B
  /-- `9F`: NOP_UNK $9F -/
  | nopUnk9F
  /-- `A3`: NOP_UNK $A3 -/
  | nopUnkA3
  /-- `A7`: NOP_UNK $A7 -/
  | nopUnkA7
  /-- `A8`: TAY -/
  | tay
  /-- `AA`: TAX -/
  | tax
  /-- `AB`: NOP_UNK $AB -/
  | nopUnkAB
  /-- `AF`: NOP_UNK $AF -/
  | nopUnkAF
  /-- `B3`: NOP_UNK $B3 -/
  | nopUnkB3
  /-- `B7`: NOP_UNK $B7 -/
  | nopUnkB7
  /-- `B8`: CLV -/
  | clv
  /-- `BA`: TSX -/
  | tsx
  /-- `BB`: NOP_UNK $BB -/
  | nopUnkBB
  /-- `BF`: NOP_UNK $BF -/
  | nopUnkBF
  /-- `C2`: NOP_UNK $C2 -/
  | nopUnkC2
  /-- `C3`: NOP_UNK $C3 -/
  | nopUnkC3
  /-- `C7`: NOP_UNK $C7 -/
  | nopUnkC7
  /-- `C8`: INY -/
  | iny
  /-- `CA`: DEX -/
  | dex
  /-- `CB`: NOP_UNK $CB -/
  | nopUnkCB
  /-- `CF`: NOP_UNK $CF -/
  | nopUnkCF
  /-- `D3`: NOP_UNK $D3 -/
  | nopUnkD3
  /-- `D4`: NOP_UNK $D4 -/
  | nopUnkD4
  /-- `D7`: NOP_UNK $D7 -/
  | nopUnkD7
  /-- `D8`: CLD -/
  | cld
  /-- `DA`: PHX -/
  | phx
  /-- `DB`: NOP_UNK $DB -/
  | nopUnkDB
  /-- `DC`: NOP_UNK $DC -/
  | nopUnkDC
  /-- `DF`: NOP_UNK $DF -/
  | nopUnkDF
  /-- `E2`: NOP_UNK $E2 -/
  | nopUnkE2
  /-- `E3`: NOP_UNK $E3 -/
  | nopUnkE3
  /-- `E7`: NOP_UNK $E7 -/
  | nopUnkE7
  /-- `E8`: INX -/
  | inx
  /-- `EA`: NOP -/
  | nop
  /-- `EB`: NOP_UNK $EB -/
  | nopUnkEB
  /-- `EF`: NOP_UNK $EF -/
  | nopUnkEF
  /-- `F3`: NOP_UNK $F3 -/
  | nopUnkF3
  /-- `F4`: NOP_UNK $F4 -/
  | nopUnkF4
  /-- `F7`: NOP_UNK $F7 -/
  | nopUnkF7
  /-- `F8`: SED -/
  | sed
  /-- `FA`: PLX -/
  | plx
  /-- `FB`: NOP_UNK $FB -/
  | nopUnkFB
  /-- `FC`: NOP_UNK $FC -/
  | nopUnkFC
  /-- `FF`: NOP_UNK $FF -/
  | nopUnkFF
deriving DecidableEq, Repr

end Sys2Proof
end

