-- ==== Sys2Proof/WellFormed.lean ====
section
/-!
DEFINITION. What the machine asks of its inputs. An instruction has nothing to check: the operand
types of `Instr` hold exactly what an encoding can hold (`30_encoding.md` R130, R154: "every opcode
byte is either one of the 178 ... or one of the 78 no-ops"). The parameters have: `Params.wf` lists
what the spec asks of them (R7, R110, R160, R352, R462, R464, R490; U5, U7, U9, U10), one named check each.
-/

namespace Sys2Proof

/-- Every instruction is well formed: no operand of R133 to R147 has a value that an encoding cannot
hold, and no encoding is reserved (R154). -/
def Instr.wf (_ : Instr) : Bool := true

/-- The 78 opcode bytes that R150 does not assign (R153). -/
def undefinedOpcodes : List Byte :=
  [0x02#8, 0x03#8, 0x07#8, 0x0B#8, 0x0F#8, 0x13#8, 0x17#8, 0x1B#8, 0x1F#8, 0x22#8, 0x23#8, 0x27#8, 0x2B#8,
   0x2F#8, 0x33#8, 0x37#8, 0x3B#8, 0x3F#8, 0x42#8, 0x43#8, 0x44#8, 0x47#8, 0x4B#8, 0x4F#8, 0x53#8, 0x54#8] ++
  [0x57#8, 0x5B#8, 0x5C#8, 0x5F#8, 0x62#8, 0x63#8, 0x67#8, 0x6B#8, 0x6F#8, 0x73#8, 0x77#8, 0x7B#8, 0x7F#8,
   0x82#8, 0x83#8, 0x87#8, 0x8B#8, 0x8F#8, 0x93#8, 0x97#8, 0x9B#8, 0x9F#8, 0xA3#8, 0xA7#8, 0xAB#8, 0xAF#8] ++
  [0xB3#8, 0xB7#8, 0xBB#8, 0xBF#8, 0xC2#8, 0xC3#8, 0xC7#8, 0xCB#8, 0xCF#8, 0xD3#8, 0xD4#8, 0xD7#8, 0xDB#8,
   0xDC#8, 0xDF#8, 0xE2#8, 0xE3#8, 0xE7#8, 0xEB#8, 0xEF#8, 0xF3#8, 0xF4#8, 0xF7#8, 0xFB#8, 0xFC#8, 0xFF#8]

/-- The 27 opcode bytes of tier `cmos` (R152). -/
def cmosOpcodes : List Byte :=
  [0x12#8, 0x32#8, 0x52#8, 0x72#8, 0x92#8, 0xB2#8, 0xD2#8, 0xF2#8, 0x89#8, 0x34#8, 0x3C#8, 0x1A#8, 0x3A#8,
   0x7C#8, 0x80#8, 0xDA#8, 0x5A#8, 0xFA#8, 0x7A#8, 0x64#8, 0x74#8, 0x9C#8, 0x9E#8, 0x14#8, 0x1C#8, 0x04#8,
   0x0C#8]

/-- No entry of a table is greater than the one after it. -/
def nonDecreasing (l : List Nat) : Bool := (l.zip l.tail).all fun ab => decide (ab.1 ≤ ab.2)

/-- `CPU_FREQ_HZ > 0` and `FRAME_RATE_HZ > 0` (U10): the scanline clock of R370 divides by them. -/
def Params.wfClocks (p : Params) : Bool := decide (0 < p.cpuFreqHz) && decide (0 < p.frameRateHz)

/-- `TICK_INTERVAL` is at least 1: `SCHED.acc` lies in `[0, TICK_INTERVAL)` (R34). -/
def Params.wfTickInterval (p : Params) : Bool := decide (0 < p.tickInterval)

/-- `BASE_CYCLES` has 256 entries, each at least 1 (R160, U5); BRK costs 7 (R328) and every undefined
opcode 1 (R330), as those rules say outright. -/
def Params.wfBaseCycles (p : Params) : Bool :=
  decide (p.baseCycles.length = 256) && p.baseCycles.all (fun n => decide (1 ≤ n)) &&
    decide (p.baseCycles.getD 0 1 = 7) &&
    undefinedOpcodes.all (fun op => decide (p.baseCycles.getD op.toNat 1 = 1))

/-- The 192 active scanlines fit in the frame (R380). -/
def Params.wfScanlines (p : Params) : Bool := decide (192 ≤ p.totalScanlines)

/-- `PALETTE` has 16 entries, all opaque, with indices 1 and 15 as D0 fixes them (R352, U7). -/
def Params.wfPalette (p : Params) : Bool :=
  decide (p.palette.length = 16) && p.palette.all (fun c => decide (c.a = 0xFF#8)) &&
    decide (p.palette.getD 1 default = ⟨0x00#8, 0x00#8, 0x00#8, 0xFF#8⟩) &&
    decide (p.palette.getD 15 default = ⟨0xFF#8, 0xFF#8, 0xFF#8, 0xFF#8⟩)

/-- `0 < SAMPLE_RATE_HZ <= SID_CLOCK_HZ` (R490, U9). -/
def Params.wfSampleRate (p : Params) : Bool :=
  decide (0 < p.sampleRateHz) && decide (p.sampleRateHz ≤ p.sidClockHz)

/-- A rate table has 16 entries, each at least 1, in non-decreasing order (R462). -/
def wfRateTable (l : List Nat) : Bool :=
  decide (l.length = 16) && l.all (fun n => decide (1 ≤ n)) && nonDecreasing l

/-- Both envelope rate tables (R462). -/
def Params.wfRates (p : Params) : Bool := wfRateTable p.attackPeriod && wfRateTable p.decayReleasePeriod

/-- The sustain levels are the ones R464 states: `SUSTAIN_LEVEL[n] = n * 0x11`. -/
def Params.wfSustain (p : Params) : Bool := decide (p.sustainLevel = defaultSustainLevel)

/-- The VIA is clocked once per CPU cycle, as R110, R530 and the settlement of C3 say. -/
def Params.wfViaTick (p : Params) : Bool := p.viaTickEveryCycle

/-- `CUTOFF_HZ` has one entry for each of the 2048 values of `fc` (R481). -/
def Params.wfCutoff (p : Params) : Bool := decide (p.cutoffHz.length = 2048)

/-- The stand-in for π lies between 3.14159 and 3.1416 (log entry 13). -/
def Params.wfPi (p : Params) : Bool :=
  decide (314159 / 100000 ≤ p.piApprox) && decide (p.piApprox ≤ 31416 / 10000)

/-- What the spec asks of the parameters. -/
def Params.wf (p : Params) : Bool :=
  p.wfClocks && p.wfTickInterval && p.wfBaseCycles && p.wfScanlines && p.wfPalette && p.wfSampleRate &&
    p.wfRates && p.wfSustain && p.wfViaTick && p.wfCutoff && p.wfPi

end Sys2Proof
end

