-- ==== Sys2Proof/Machine/State.lean ====
section
/-!
DEFINITION. The state of the machine as plain data: everything `10_state.md` gives it (R20 to R66),
the configuration and environment inputs the spec gives it from outside (R7, R580, R560), and the
model's own fields, each marked so. `State.reset` is the state right after a cold reset with the
parameters R7 takes, a missing ROM, no Cart and no attachments (R75, R672).
-/

namespace Sys2Proof.Machine

/-- A byte store: `(address, byte)` pairs in rising order of address, without an entry for a byte that
is 0, which is what an unlisted address reads as (R30, R31, R33: every store is 0 after a cold reset, a
missing image is all zero). The operations and the form are in `Machine/Memory.lean`. -/
abbrev Memory := List Host.Cell

/-- Which of the CPU's two interrupt inputs a device pulses (R12, R112, R620). -/
inductive Pulse where
  /-- `raiseIRQ`. -/
  | irq
  /-- `raiseNMI`. -/
  | nmi
deriving DecidableEq, Repr

/-- The two machine resets (R671 to R673). -/
inductive ResetKind where
  | cold
  | warm
deriving DecidableEq, Repr

/-- `VDP.R[0..7]` (R36). -/
structure VdpRegs where
  r0 : Byte
  r1 : Byte
  r2 : Byte
  r3 : Byte
  r4 : Byte
  r5 : Byte
  r6 : Byte
  r7 : Byte
deriving DecidableEq, Repr

/-- The 320 × 240 output buffer (R42, R351): the colour every border pixel has, and those of the 192
active rows that are not all of that colour, in rising order, each with its 256 pixels (log entry 15). -/
structure Frame where
  fill : Rgba
  rows : List (Nat × List Rgba)
deriving DecidableEq, Repr

/-- The video card (R33, R36 to R42). -/
structure Vdp where
  /-- `VDP.VRAM` (R33). -/
  vram : Memory
  /-- `VDP.R` (R36). -/
  regs : VdpRegs
  /-- `VDP.addr` (R37). -/
  addr : BitVec 14
  /-- `VDP.readbuf` (R38). -/
  readbuf : Byte
  /-- `VDP.latched` (R39). -/
  latched : Bool
  /-- `VDP.latch_byte` (R39). -/
  latchByte : Byte
  /-- `VDP.status` (R40). -/
  status : Byte
  /-- `VDP.scanline` (R41). -/
  scanline : Nat
  /-- `VDP.pace` (R41). -/
  pace : Rat
  /-- `VDP.frame` (R42). -/
  frame : Frame
  /-- The model's own: free picture lines drawn so far (U6, log entry 12). -/
  linesDrawn : Nat
deriving DecidableEq, Repr

/-- `SND.V[v].env_state` (R48). -/
inductive EnvState where
  | attack
  | decay
  | sustain
  | release
deriving DecidableEq, Repr

/-- One voice of the sound card (R46 to R48). -/
structure Voice where
  freq : BitVec 16
  pw : BitVec 12
  ctrl : Byte
  ad : Byte
  sr : Byte
  acc : BitVec 24
  lfsr : BitVec 23
  msbRose : Bool
  envState : EnvState
  env : Byte
  rateCnt : Nat
  expCnt : Nat
deriving DecidableEq, Repr

/-- The sound card (R46 to R51). The real numbers are rationals (log entry 13). -/
structure Sound where
  v0 : Voice
  v1 : Voice
  v2 : Voice
  /-- `SND.fc` (R49). -/
  fc : BitVec 11
  resFilt : Byte
  modeVol : Byte
  potx : Byte
  poty : Byte
  /-- `SND.LP`, `SND.BP`, `SND.HP` (R50). -/
  lp : Rat
  bp : Rat
  hp : Rat
  /-- `SND.sample_acc` (R51). -/
  sampleAcc : Nat
  /-- `SND.out` (R51), the oldest sample first. -/
  out : List Rat
deriving DecidableEq, Repr

/-- One of the two VIA ports (R66, R561). -/
inductive Port where
  | a
  | b
deriving DecidableEq, Repr

/-- An attachment as the VIA sees it (R560): its priority and what it will answer, oldest first. An
answer beyond the list is a free value (log entry 9). -/
structure Attachment where
  priority : Int
  /-- The coming answers of `isEnabled()`. -/
  enabled : List Bool
  /-- The coming answers of `readPortA` or `readPortB`. -/
  reads : List Byte
  /-- The coming answers of `hasCA1/CA2/CB1/CB2Interrupt()`, one record per poll. -/
  requests : List Requests
deriving DecidableEq, Repr

/-- A call the VIA makes to an attachment (R560). -/
inductive AttachCall where
  | reset
  | tick
  | isEnabled
  | readPort (ddr orv : Byte)
  | writePort (value ddr : Byte)
  | pollInterrupts
  | clearInterrupts (ca1 ca2 cb1 cb2 : Bool)
  | updateControlLines (ca1 ca2 cb1 cb2 : Bool)
deriving DecidableEq, Repr

/-- One call made to the attachment at a place of a port's list (log entry 27). -/
structure Notice where
  port : Port
  index : Nat
  call : AttachCall
deriving DecidableEq, Repr

/-- The VIA (R60 to R66). -/
structure Via where
  ora : Byte
  orb : Byte
  ddra : Byte
  ddrb : Byte
  t1c : Word
  t1l : Word
  t2c : Word
  t2l : Byte
  t1Running : Bool
  t2Running : Bool
  t1ReloadPending : Bool
  sr : Byte
  acr : Byte
  pcr : Byte
  /-- The seven stored flag bits (R64). -/
  ifr : BitVec 7
  /-- The seven stored enable bits (R64). -/
  ier : BitVec 7
  ca1 : Bool
  ca2 : Bool
  cb1 : Bool
  cb2 : Bool
  /-- The Port A list, in priority order (R66): configuration and environment. -/
  portA : List Attachment
  /-- The Port B list, in priority order (R66): configuration and environment. -/
  portB : List Attachment
  /-- The model's own: the calls made to attachments, oldest first (R560, log entry 27). -/
  notices : List Notice
  /-- The model's own: free attachment answers drawn so far (log entry 9). -/
  drawn : Nat
deriving DecidableEq, Repr

/-- What a card outside CORE does at one CPU access: the byte a read returns (a write ignores it) and
the pulses it emits (R580). -/
structure SlotReply where
  value : Byte
  pulses : List Pulse
deriving DecidableEq, Repr

/-- A card outside CORE as an environment process (R580): its coming replies to accesses and the pulses
of its coming ticks, oldest first. -/
structure SlotPort where
  replies : List SlotReply
  ticks : List (List Pulse)
deriving DecidableEq, Repr

/-- The five cards outside CORE, slots 0 to 4 (R4, R82, R580). -/
structure Slots where
  ram1 : SlotPort
  ram2 : SlotPort
  rtc : SlotPort
  storage : SlotPort
  serial : SlotPort
  /-- The model's own: free bytes drawn so far (log entry 7). -/
  drawn : Nat
deriving DecidableEq, Repr

/-- The whole machine. -/
structure State where
  /-- `A`, `X`, `Y` (R20). -/
  a : Byte
  x : Byte
  y : Byte
  /-- `SP` (R21). -/
  sp : Byte
  /-- `PC` (R22). -/
  pc : Word
  /-- `P` (R23). -/
  p : Byte
  /-- `cycles_remaining` (R26). -/
  cyclesRemaining : Nat
  /-- `cycles_total` (R27). -/
  cyclesTotal : Nat
  /-- `RAM` (R30). -/
  ram : Memory
  /-- `ROM` (R31). -/
  rom : Memory
  /-- `CART` (R32). -/
  cart : Memory
  /-- `SCHED.acc` (R34). -/
  schedAcc : Nat
  /-- The video card. -/
  vdp : Vdp
  /-- The sound card. -/
  snd : Sound
  /-- The VIA. -/
  via : Via
  /-- The environment's cards in slots 0 to 4 (R580). -/
  slots : Slots
  /-- The parameters (R7). -/
  params : Params
  /-- The host's pending reset request (R116, R671). -/
  resetRequest : Option ResetKind
  /-- The model's own: pulses emitted by the running instruction's register accesses (R112, log entry 6). -/
  posted : List Pulse
  /-- The model's own: whether FrameReady occurred in the last machine tick (R372, log entry 21). -/
  frameReady : Bool
  /-- The model's own: free decimal results drawn so far (U3, log entry 11). -/
  bcdDrawn : Nat
deriving DecidableEq, Repr

/-- Why the machine stops with a fault: never. "Nothing in the machine faults or sticks"
(`93_implementation_defined.md` Part 1; R117, R615). No meaning and no device raises one: safe. -/
inductive Fault where
deriving DecidableEq, Repr

/-- Why an instruction is refused. -/
inductive Refusal where
  /-- Raised by an arm of `exec` whose instruction has no meaning yet: safe, since the machine then has
  no next state. No arm does: every row of the opcode table has its meaning. -/
  | notModelled (mnemonic : String)
deriving DecidableEq, Repr

/-- Opaque black, the reset colour of every pixel (R42). -/
def black : Rgba := ⟨0x00#8, 0x00#8, 0x00#8, 0xFF#8⟩

/-- The video card after a cold reset (R672, R75). -/
def Vdp.cold : Vdp where
  vram := []
  regs := ⟨0x00#8, 0x00#8, 0x00#8, 0x00#8, 0x00#8, 0x00#8, 0x00#8, 0x00#8⟩
  addr := 0
  readbuf := 0x00#8
  latched := false
  latchByte := 0x00#8
  status := 0x00#8
  scanline := 0
  pace := 0
  frame := ⟨black, []⟩
  linesDrawn := 0

/-- One voice after a reset (R672, R75). -/
def Voice.cold : Voice where
  freq := 0
  pw := 0
  ctrl := 0x00#8
  ad := 0x00#8
  sr := 0x00#8
  acc := 0
  lfsr := 0x7FFFF8#23
  msbRose := false
  envState := .release
  env := 0x00#8
  rateCnt := 0
  expCnt := 0

/-- The sound card after a cold reset (R672, R75). -/
def Sound.cold : Sound where
  v0 := Voice.cold
  v1 := Voice.cold
  v2 := Voice.cold
  fc := 0
  resFilt := 0x00#8
  modeVol := 0x00#8
  potx := 0x00#8
  poty := 0x00#8
  lp := 0
  bp := 0
  hp := 0
  sampleAcc := 0
  out := []

/-- The VIA after a reset, with no attachments (R672, R75). -/
def Via.cold : Via where
  ora := 0x00#8
  orb := 0x00#8
  ddra := 0x00#8
  ddrb := 0x00#8
  t1c := 0
  t1l := 0
  t2c := 0
  t2l := 0x00#8
  t1Running := false
  t2Running := false
  t1ReloadPending := false
  sr := 0x00#8
  acr := 0x00#8
  pcr := 0x00#8
  ifr := 0
  ier := 0
  ca1 := true
  ca2 := true
  cb1 := true
  cb2 := true
  portA := []
  portB := []
  notices := []
  drawn := 0

/-- A card outside CORE of which nothing is listed. -/
def SlotPort.quiet : SlotPort := ⟨[], []⟩

/-- Five cards outside CORE of which nothing is listed. -/
def Slots.quiet : Slots :=
  ⟨SlotPort.quiet, SlotPort.quiet, SlotPort.quiet, SlotPort.quiet, SlotPort.quiet, 0⟩

/-- The machine right after a cold reset (R75, R670, R672), with the parameters R7 takes and the missing
ROM of R31, so that the reset vector reads `0x0000` (R680). -/
def State.reset : State where
  a := 0x00#8
  x := 0x00#8
  y := 0x00#8
  sp := 0xFD#8
  pc := 0x0000#16
  p := 0x20#8
  cyclesRemaining := 7
  cyclesTotal := 0
  ram := []
  rom := []
  cart := []
  schedAcc := 0
  vdp := Vdp.cold
  snd := Sound.cold
  via := Via.cold
  slots := Slots.quiet
  params := Params.standard
  resetRequest := none
  posted := []
  frameReady := false
  bcdDrawn := 0

end Sys2Proof.Machine
end

