-- ==== Sys2Proof/Machine/Flags.lean ====
section
/-!
DEFINITION. The flags of `P` (`10_state.md` R23 to R25) and every flag computation the instructions use
(`00_scope.md` R13; `41_arithmetic_logic.md` R219 to R238; `42_shift_rotate.md` R269 to R273).
-/

namespace Sys2Proof.Machine

/-- The flags of `P` (R23). -/
inductive Flag where
  | c
  | z
  | i
  | d
  | b
  | u
  | v
  | n
deriving DecidableEq, Repr

/-- The bit position of a flag (R23). -/
def Flag.pos (f : Flag) : Nat :=
  match f with
  | .c => 0
  | .z => 1
  | .i => 2
  | .d => 3
  | .b => 4
  | .u => 5
  | .v => 6
  | .n => 7

/-- The flag's bit as a mask. -/
def Flag.mask (f : Flag) : Byte := 1#8 <<< f.pos

/-- A flag of a status byte. -/
def getFlag (f : Flag) (p : Byte) : Bool := p.getLsbD f.pos

/-- A status byte with one flag written. -/
def putFlag (f : Flag) (on : Bool) (p : Byte) : Byte := if on then p ||| f.mask else p &&& ~~~f.mask

/-- A flag of the machine. -/
def State.flag (f : Flag) (s : State) : Bool := getFlag f s.p

/-- Write a flag of the machine. -/
def State.setFlag (f : Flag) (on : Bool) (s : State) : State := { s with p := putFlag f on s.p }

/-- Whether a byte is zero. -/
def isZero (r : Byte) : Bool := decide (r = 0x00#8)

/-- The sign bit of a byte. -/
def isNeg (r : Byte) : Bool := r.getLsbD 7

/-- `N` and `Z` of a status byte from a result (R13). -/
def nzBits (r : Byte) (p : Byte) : Byte := putFlag .n (isNeg r) (putFlag .z (isZero r) p)

/-- `SetNZ(r)` (R13). -/
def State.setNZ (r : Byte) (s : State) : State := { s with p := nzBits r s.p }

/-- `N`, `Z`, `C`, `V` of a status byte from an addition or subtraction (R220, R221). -/
def aluBits (r : AluResult) (p : Byte) : Byte :=
  putFlag .n r.n (putFlag .z r.z (putFlag .v r.v (putFlag .c r.c p)))

/-- The result of a binary addition (R220): the carry is bit 8 of the exact sum, overflow is a sign
that both operands lack or have. -/
def adcBinary (a m : Byte) (c : Bool) : AluResult :=
  let sum := a.toNat + m.toNat + c.toNat
  let r := BitVec.ofNat 8 sum
  ⟨r, isNeg r, isZero r, decide (0xFF < sum), ((a ^^^ r) &&& (m ^^^ r)).getLsbD 7⟩

/-- The result of a binary subtraction: the addition of the inverted operand (R221). -/
def sbcBinary (a m : Byte) (c : Bool) : AluResult := adcBinary a (m ^^^ 0xFF#8) c

/-- The result of a decimal addition (R222). -/
def adcDecimal (a m : Byte) (c : Bool) : AluResult :=
  let l := (a &&& 0x0F#8).toNat + (m &&& 0x0F#8).toNat + c.toNat
  let l := if 0x0A ≤ l then ((l + 0x06) &&& 0x0F) + 0x10 else l
  let t := (a &&& 0xF0#8).toNat + (m &&& 0xF0#8).toNat + l
  let t := if 0xA0 ≤ t then t + 0x60 else t
  let r := BitVec.ofNat 8 t
  ⟨r, isNeg r, isZero r, decide (0x100 ≤ t), (adcBinary a m c).v⟩

/-- The result of a decimal subtraction (R223). -/
def sbcDecimal (a m : Byte) (c : Bool) : AluResult :=
  let l : Int := ((a &&& 0x0F#8).toNat : Int) - ((m &&& 0x0F#8).toNat : Int) + (c.toNat : Int) - 1
  let d : Int := (a.toNat : Int) - (m.toNat : Int) + (c.toNat : Int) - 1
  let bin := BitVec.ofInt 8 d
  let e := if d < 0 then d - 0x60 else d
  let e := if l < 0 then e - 0x06 else e
  let r := BitVec.ofInt 8 e
  ⟨r, isNeg r, isZero r, decide (0 ≤ d), ((a ^^^ bin) &&& ((m ^^^ 0xFF#8) ^^^ bin)).getLsbD 7⟩

/-- Both digits of a byte are decimal digits (U3). -/
def validBcd (x : Byte) : Bool :=
  decide ((x &&& 0x0F#8).toNat ≤ 9) && decide ((x &&& 0xF0#8).toNat ≤ 0x90)

/-- `N`, `Z`, `C` of a status byte from a compare (R227). -/
def compareBits (r m : Byte) (p : Byte) : Byte :=
  putFlag .n (isNeg (r - m)) (putFlag .z (decide (r = m)) (putFlag .c (decide (m ≤ r)) p))

/-- `Z`, `N`, `V` of a status byte from BIT on memory (R230). -/
def bitBits (a m : Byte) (p : Byte) : Byte :=
  putFlag .v (m.getLsbD 6) (putFlag .n (m.getLsbD 7) (putFlag .z (isZero (a &&& m)) p))

/-- `Z` of a status byte from BIT immediate, TRB or TSB (R230, R237, R238). -/
def testBits (a m : Byte) (p : Byte) : Byte := putFlag .z (isZero (a &&& m)) p

/-- `N`, `Z`, `C` of a status byte from a shift (R269). -/
def shiftBits (r : Byte) (out : Bool) (p : Byte) : Byte := nzBits r (putFlag .c out p)

/-- A shift's result and the bit that goes to `C` (R269). -/
abbrev Shifted := Byte × Bool

/-- ASL (R270). -/
def aslByte (m : Byte) : Shifted := (m <<< 1, m.getLsbD 7)

/-- LSR (R271). -/
def lsrByte (m : Byte) : Shifted := (m >>> 1, m.getLsbD 0)

/-- ROL (R272). -/
def rolByte (c : Bool) (m : Byte) : Shifted := ((m <<< 1) ||| (BitVec.ofBool c).setWidth 8, m.getLsbD 7)

/-- ROR (R273). -/
def rorByte (c : Bool) (m : Byte) : Shifted :=
  ((m >>> 1) ||| ((BitVec.ofBool c).setWidth 8 <<< 7), m.getLsbD 0)

/-- The status byte that a trap entry pushes: `N V D I Z C` as they stand, `U = 1`, `B = b` (R611). -/
def trapStatus (b : Bool) (p : Byte) : Byte := (p &&& 0xCF#8) ||| 0x20#8 ||| (if b then 0x10#8 else 0x00#8)

/-- The status byte that PHP pushes (R185). -/
def phpStatus (p : Byte) : Byte := p ||| 0x30#8

/-- `P` after PLP: bits 4 and 5 keep their stored values (R187, R25). -/
def plpStatus (m p : Byte) : Byte := (m &&& 0xCF#8) ||| (p &&& 0x30#8)

/-- `P` after RTI: bit 4 is 0 and bit 5 is 1 (R329; log entry 24). -/
def rtiStatus (m : Byte) : Byte := (m &&& 0xCF#8) ||| 0x20#8

end Sys2Proof.Machine
end

