-- ==== Sys2Proof/Machine/Memory.lean ====
section
/-!
DEFINITION. Sparse stores in one canonical form, and the byte stores made from them: RAM, ROM, Cart
and VRAM (`10_state.md` R30 to R33). A store lists its non-default cells in rising order of address.
-/

namespace Sys2Proof.Machine

/-- What a store lists at a key. -/
def sparseFind {α : Type} : List (Nat × α) → Nat → Option α
  | [], _ => none
  | (k, v) :: rest, key => if key = k then some v else sparseFind rest key

/-- Put a value at a key of a store in rising order. -/
def sparseInsert {α : Type} : List (Nat × α) → Nat → α → List (Nat × α)
  | [], key, v => [(key, v)]
  | (k, w) :: rest, key, v =>
    if key = k then (key, v) :: rest
    else if key < k then (key, v) :: (k, w) :: rest
    else (k, w) :: sparseInsert rest key v

/-- Take the entry at a key out of a store. -/
def sparseErase {α : Type} : List (Nat × α) → Nat → List (Nat × α)
  | [], _ => []
  | (k, w) :: rest, key => if key = k then rest else (k, w) :: sparseErase rest key

/-- Every key of the store is above `low` and the keys strictly rise. -/
def sparseSortedFrom {α : Type} : Nat → List (Nat × α) → Bool
  | _, [] => true
  | low, (k, _) :: rest => decide (low ≤ k) && sparseSortedFrom (k + 1) rest

/-- What a cell that is not listed reads as: 0 (R30, R31, R33: the contents after a cold reset and of a
missing image; log entry 14). -/
def Memory.blank : Byte := 0x00#8

/-- The byte at an address of a store (R90). -/
def Memory.read (m : Memory) (a : Nat) : Byte := (sparseFind m a).getD Memory.blank

/-- Write a byte at an address of a store (R91, R364). -/
def Memory.write (m : Memory) (a : Nat) (v : Byte) : Memory :=
  if v = Memory.blank then sparseErase m a else sparseInsert m a v

/-- The canonical form: addresses strictly rise, and no entry holds what an unlisted cell reads as. -/
def Memory.wf (m : Memory) : Bool :=
  sparseSortedFrom 0 m && m.all (fun c => decide (c.2 ≠ Memory.blank))

/-- The canonical form, with every address below the size of the store. -/
def Memory.wfBelow (size : Nat) (m : Memory) : Bool :=
  Memory.wf m && m.all (fun c => decide (c.1 < size))

end Sys2Proof.Machine
end

