-- ==== Sys2Proof/Machine/Slots.lean ====
section
/-!
DEFINITION. The five cards outside CORE, slots 0 to 4, as the contract of `49_external_slots_and_host.md`
R580 gives them: environment processes that answer reads, absorb writes, are ticked, and may pulse. What
they will do is listed in the state, oldest first; beyond the list a read returns a free byte and nothing
pulses (log entries 7, 8).
-/

namespace Sys2Proof.Machine

/-- The cards outside CORE (R82, R580). -/
inductive CardId where
  | ram1
  | ram2
  | rtc
  | storage
  | serial
deriving DecidableEq, Repr

/-- The slot number of a card (R82). -/
def CardId.slot (c : CardId) : Nat :=
  match c with
  | .ram1 => 0
  | .ram2 => 1
  | .rtc => 2
  | .storage => 3
  | .serial => 4

/-- A card's port. -/
def Slots.port (c : CardId) (k : Slots) : SlotPort :=
  match c with
  | .ram1 => k.ram1
  | .ram2 => k.ram2
  | .rtc => k.rtc
  | .storage => k.storage
  | .serial => k.serial

/-- Put a card's port. -/
def Slots.setPort (c : CardId) (p : SlotPort) (k : Slots) : Slots :=
  match c with
  | .ram1 => { k with ram1 := p }
  | .ram2 => { k with ram2 := p }
  | .rtc => { k with rtc := p }
  | .storage => { k with storage := p }
  | .serial => { k with serial := p }

/-- A CPU read at an offset of a card's window (R580): the byte, the pulses, the cards after it. -/
def Slots.read (c : CardId) (off : Nat) (k : Slots) : Byte × List Pulse × Slots :=
  match (k.port c).replies with
  | r :: rs => (r.value, r.pulses, k.setPort c { k.port c with replies := rs })
  | [] => (Config.slotByte c.slot off k.drawn, [], { k with drawn := k.drawn + 1 })

/-- A CPU write to a card's window: absorbed (R580); the pulses and the cards after it. -/
def Slots.write (c : CardId) (k : Slots) : List Pulse × Slots :=
  match (k.port c).replies with
  | r :: rs => (r.pulses, k.setPort c { k.port c with replies := rs })
  | [] => ([], k)

/-- A card's tick (R580, R582): the pulses and the cards after it. -/
def Slots.tick (c : CardId) (k : Slots) : List Pulse × Slots :=
  match (k.port c).ticks with
  | ps :: rest => (ps, k.setPort c { k.port c with ticks := rest })
  | [] => ([], k)

end Sys2Proof.Machine
end

