-- ==== Sys2Proof/Machine/Sound.lean ====
section
/-!
DEFINITION. The sound card (`47_sound.md`): its register map, the oscillators, waveforms and envelopes,
the mixer, the filter, the sample pacer and the tick. Integer parts are exact; the real numbers of the
filter and the samples are rationals (R14, R492; log entry 13).
-/

namespace Sys2Proof.Machine

/-! ### Control bits (R433) -/

/-- Control bit 0. -/
def Voice.gate (v : Voice) : Bool := v.ctrl.getLsbD 0

/-- Control bit 1. -/
def Voice.sync (v : Voice) : Bool := v.ctrl.getLsbD 1

/-- Control bit 2. -/
def Voice.ring (v : Voice) : Bool := v.ctrl.getLsbD 2

/-- Control bit 3. -/
def Voice.test (v : Voice) : Bool := v.ctrl.getLsbD 3

/-! ### Waveforms (R450 to R455) -/

/-- Triangle (R451); `ringMsb` is bit 23 of the modulating voice's accumulator. -/
def Voice.tri (v : Voice) (ringMsb : Bool) : BitVec 12 :=
  let sel := if v.ring then v.acc.getLsbD 23 ^^ ringMsb else v.acc.getLsbD 23
  let t : BitVec 12 := v.acc.extractLsb' 11 12
  if sel then ~~~t else t

/-- Sawtooth (R452). -/
def Voice.saw (v : Voice) : BitVec 12 := v.acc.extractLsb' 12 12

/-- Pulse (R453). -/
def Voice.pulse (v : Voice) : BitVec 12 :=
  if v.test ∨ v.pw ≤ v.acc.extractLsb' 12 12 then 0xFFF#12 else 0x000#12

/-- Noise (R454): LFSR bits 22, 20, 16, 13, 11, 7, 4, 2, then four zero bits. -/
def Voice.noise (v : Voice) : BitVec 12 :=
  BitVec.ofBool (v.lfsr.getLsbD 22) ++ BitVec.ofBool (v.lfsr.getLsbD 20) ++
    BitVec.ofBool (v.lfsr.getLsbD 16) ++ BitVec.ofBool (v.lfsr.getLsbD 13) ++
    BitVec.ofBool (v.lfsr.getLsbD 11) ++ BitVec.ofBool (v.lfsr.getLsbD 7) ++
    BitVec.ofBool (v.lfsr.getLsbD 4) ++ BitVec.ofBool (v.lfsr.getLsbD 2) ++ 0x0#4

/-- A selected waveform, or all ones so that the AND ignores it (R455). -/
def selected (on : Bool) (w : BitVec 12) : BitVec 12 := if on then w else 0xFFF#12

/-- `Wave(v)` (R455): the AND of the selected waveforms, 0 when none is selected. -/
def Voice.wave (v : Voice) (ringMsb : Bool) : BitVec 12 :=
  if v.ctrl.extractLsb' 4 4 = 0#4 then 0#12
  else
    selected (v.ctrl.getLsbD 4) (v.tri ringMsb) &&& selected (v.ctrl.getLsbD 5) v.saw &&&
      selected (v.ctrl.getLsbD 6) v.pulse &&& selected (v.ctrl.getLsbD 7) v.noise

/-! ### Oscillators (R442 to R444) -/

/-- The LFSR seed (R47). -/
def lfsrSeed : BitVec 23 := 0x7FFFF8#23

/-- `LfsrClock` (R443): shift left, feedback from bits 17 and 22 into bit 0. -/
def lfsrClock (l : BitVec 23) : BitVec 23 :=
  l.extractLsb' 0 22 ++ BitVec.ofBool (l.getLsbD 17 ^^ l.getLsbD 22)

/-- `OscAdvance` (R442). -/
def Voice.oscAdvance (v : Voice) : Voice :=
  if v.test then
    { v with acc := 0, lfsr := lfsrSeed, msbRose := false }
  else
    let acc := v.acc + v.freq.setWidth 24
    { v with
      acc := acc
      lfsr := if !v.acc.getLsbD 19 && acc.getLsbD 19 then lfsrClock v.lfsr else v.lfsr
      msbRose := !v.acc.getLsbD 23 && acc.getLsbD 23 }

/-- `OscSync` (R444), given whether the modulating voice's bit 23 rose in this cycle. -/
def Voice.oscSync (v : Voice) (srcRose : Bool) : Voice :=
  if v.sync && srcRose then { v with acc := 0 } else v

/-! ### Envelopes (R460 to R464) -/

/-- `ExpPeriod` (R463). -/
def expPeriod (e : Byte) : Nat :=
  if 0x5D#8 ≤ e then 1
  else if 0x36#8 ≤ e then 2
  else if 0x1A#8 ≤ e then 4
  else if 0x0E#8 ≤ e then 8
  else if 0x06#8 ≤ e then 16
  else 30

/-- An entry of the sustain-level table (R464). -/
def sustainLevel (table : List Byte) (n : BitVec 4) : Byte := table.getD n.toNat 0x00#8

/-- The high nibble of a byte. -/
def highNibble (b : Byte) : BitVec 4 := b.extractLsb' 4 4

/-- The low nibble of a byte. -/
def lowNibble (b : Byte) : BitVec 4 := b.extractLsb' 0 4

/-- An entry of a rate table (R462). -/
def ratePeriod (table : List Nat) (n : BitVec 4) : Nat := table.getD n.toNat 1

/-- The counters of one downward step, shared by Decay and Release (R461): count the rate counter up to
the period, then the exponential sub-counter up to `ExpPeriod`, then lower the level by one. -/
def Voice.countDown (v : Voice) (period : Nat) : Voice :=
  if v.rateCnt + 1 < period then { v with rateCnt := v.rateCnt + 1 }
  else if v.expCnt + 1 < expPeriod v.env then { v with rateCnt := 0, expCnt := v.expCnt + 1 }
  else { v with rateCnt := 0, expCnt := 0, env := v.env - 1 }

/-- Attack (R461). -/
def Voice.attackCycle (v : Voice) (period : Nat) : Voice :=
  if v.rateCnt + 1 < period then { v with rateCnt := v.rateCnt + 1 }
  else
    let env := if v.env < 0xFF#8 then v.env + 1 else v.env
    if env = 0xFF#8 then { v with rateCnt := 0, env := env, envState := .decay, expCnt := 0 }
    else { v with rateCnt := 0, env := env }

/-- Decay, down to the sustain level (R461). -/
def Voice.decayCycle (v : Voice) (period : Nat) (level : Byte) : Voice :=
  if v.env ≤ level then { v with envState := .sustain }
  else
    let v1 := v.countDown period
    if v1.env ≤ level then { v1 with envState := .sustain } else v1

/-- Release (R461). -/
def Voice.releaseCycle (v : Voice) (period : Nat) : Voice :=
  if v.env = 0x00#8 then v else v.countDown period

/-- `EnvCycle` (R461). -/
def Voice.envCycle (p : Params) (v : Voice) : Voice :=
  let level := sustainLevel p.sustainLevel (highNibble v.sr)
  match v.envState with
  | .attack => v.attackCycle (ratePeriod p.attackPeriod (highNibble v.ad))
  | .decay => v.decayCycle (ratePeriod p.decayReleasePeriod (lowNibble v.ad)) level
  | .sustain => { v with env := level }
  | .release => v.releaseCycle (ratePeriod p.decayReleasePeriod (lowNibble v.sr))

/-! ### Mixer, filter, output (R470 to R482) -/

/-- `Out(v) = (Wave(v) - 0x800) * env / 256` (R470). -/
def Voice.output (v : Voice) (ringMsb : Bool) : Rat :=
  ((((v.wave ringMsb).toNat : Int) - 2048) * (v.env.toNat : Int) : Int) / 256

/-- The three voice outputs; the modulating voice of voice 0 is 2, of 1 is 0, of 2 is 1 (R444, R451). -/
def Sound.outputs (s : Sound) : Rat × Rat × Rat :=
  (s.v0.output (s.v2.acc.getLsbD 23), s.v1.output (s.v0.acc.getLsbD 23),
    s.v2.output (s.v1.acc.getLsbD 23))

/-- A summand that counts only when a switch is on. -/
def gated (on : Bool) (x : Rat) : Rat := if on then x else 0

/-- The filter input: the voices routed to the filter (R471). -/
def Sound.filterIn (s : Sound) : Rat :=
  gated (s.resFilt.getLsbD 0) s.outputs.1 + gated (s.resFilt.getLsbD 1) s.outputs.2.1 +
    gated (s.resFilt.getLsbD 2) s.outputs.2.2

/-- The direct sum: the voices not routed to the filter, voice 3 left out when `3OFF` is set (R471). -/
def Sound.directSum (s : Sound) : Rat :=
  gated (!s.resFilt.getLsbD 0) s.outputs.1 + gated (!s.resFilt.getLsbD 1) s.outputs.2.1 +
    gated (!s.resFilt.getLsbD 2 && !s.modeVol.getLsbD 7) s.outputs.2.2

/-- `CUTOFF_HZ(fc)` (R481). -/
def Sound.cutoff (p : Params) (s : Sound) : Rat := p.cutoffHz.getD s.fc.toNat 0

/-- `w0` of R480: `2 * pi * CUTOFF_HZ / SAMPLE_RATE_HZ`, at most 0.9. -/
def Sound.w0 (p : Params) (s : Sound) : Rat :=
  let w := 2 * p.piApprox * s.cutoff p / (p.sampleRateHz : Rat)
  if w ≤ 9 / 10 then w else 9 / 10

/-- `Q = 1 / (1 - res / 17)` (R480). -/
def Sound.q (s : Sound) : Rat := 1 / (1 - ((highNibble s.resFilt).toNat : Rat) / 17)

/-- The filter update of one sample (R480): HP, then BP with the new HP, then LP with the new BP. -/
def Sound.filterStep (p : Params) (s : Sound) : Sound :=
  let hp := s.filterIn - s.lp - s.bp / s.q
  let bp := s.bp + s.w0 p * hp
  let lp := s.lp + s.w0 p * bp
  { s with hp := hp, bp := bp, lp := lp }

/-- The selected filter outputs (R480). -/
def Sound.filterSum (s : Sound) : Rat :=
  gated (s.modeVol.getLsbD 4) s.lp + gated (s.modeVol.getLsbD 5) s.bp + gated (s.modeVol.getLsbD 6) s.hp

/-- Clamp to `[-1, +1]` (R482). -/
def clampUnit (x : Rat) : Rat := if x ≤ -1 then -1 else if 1 ≤ x then 1 else x

/-- The final output (R482), from the filter as it stands. -/
def Sound.level (s : Sound) : Rat :=
  clampUnit ((s.filterSum + s.directSum) * (((lowNibble s.modeVol).toNat : Rat) / 15) / 4096)

/-- `Sample()` (R490): the filter is updated, then the output is appended to `SND.out`. -/
def Sound.sample (p : Params) (s : Sound) : Sound :=
  let s1 := s.filterStep p
  { s1 with out := s1.out ++ [s1.level] }

/-- `SamplePace` (R490). -/
def Sound.samplePace (p : Params) (s : Sound) : Sound :=
  let acc := s.sampleAcc + p.sampleRateHz
  if p.sidClockHz ≤ acc then ({ s with sampleAcc := acc - p.sidClockHz } : Sound).sample p
  else { s with sampleAcc := acc }

/-! ### The tick (R440, R441) -/

/-- All three oscillators advance (R441, R442). -/
def Sound.oscAdvance (s : Sound) : Sound :=
  { s with v0 := s.v0.oscAdvance, v1 := s.v1.oscAdvance, v2 := s.v2.oscAdvance }

/-- All three voices synchronise, after all three have advanced (R441, R444). -/
def Sound.oscSync (s : Sound) : Sound :=
  { s with
    v0 := s.v0.oscSync s.v2.msbRose
    v1 := s.v1.oscSync s.v0.msbRose
    v2 := s.v2.oscSync s.v1.msbRose }

/-- All three envelopes advance (R441, R461). -/
def Sound.envCycle (p : Params) (s : Sound) : Sound :=
  { s with v0 := s.v0.envCycle p, v1 := s.v1.envCycle p, v2 := s.v2.envCycle p }

/-- `SidCycle()` (R441). -/
def Sound.sidCycle (p : Params) (s : Sound) : Sound :=
  ((s.oscAdvance.oscSync).envCycle p).samplePace p

/-- `n` SID cycles. -/
def Sound.sidCycles (p : Params) : Nat → Sound → Sound
  | 0, s => s
  | n + 1, s => Sound.sidCycles p n (s.sidCycle p)

/-- SID cycles of one tick, whatever the parameters (R440). -/
def sidCyclesPerTick : Nat := 128

/-- `SoundTick` (R440). -/
def Sound.tick (p : Params) (s : Sound) : Sound := s.sidCycles p sidCyclesPerTick

/-! ### The register map (R430 to R433) -/

/-- A write of a control register with its gate edges (R433). -/
def Voice.writeCtrl (x : Byte) (v : Voice) : Voice :=
  if !v.gate && x.getLsbD 0 then { v with ctrl := x, envState := .attack, rateCnt := 0, expCnt := 0 }
  else if v.gate && !x.getLsbD 0 then { v with ctrl := x, envState := .release }
  else { v with ctrl := x }

/-- A write of one of the seven registers of a voice (R431). -/
def Voice.writeReg (r : Nat) (x : Byte) (v : Voice) : Voice :=
  match r with
  | 0 => { v with freq := word (hi v.freq) x }
  | 1 => { v with freq := word x (lo v.freq) }
  | 2 => { v with pw := v.pw.extractLsb' 8 4 ++ x }
  | 3 => { v with pw := lowNibble x ++ v.pw.extractLsb' 0 8 }
  | 4 => v.writeCtrl x
  | 5 => { v with ad := x }
  | 6 => { v with sr := x }
  | _ => v

/-- A CPU write of a sound register (R431): offsets `7v` to `7v + 6` are voice `v`'s; 27 to 31 ignore
writes (R430, R431). -/
def Sound.writeReg (n : BitVec 5) (x : Byte) (s : Sound) : Sound :=
  let k := n.toNat
  if k < 7 then { s with v0 := s.v0.writeReg k x }
  else if k < 14 then { s with v1 := s.v1.writeReg (k - 7) x }
  else if k < 21 then { s with v2 := s.v2.writeReg (k - 14) x }
  else
    match k with
    | 21 => { s with fc := s.fc.extractLsb' 3 8 ++ x.extractLsb' 0 3 }
    | 22 => { s with fc := x ++ s.fc.extractLsb' 0 3 }
    | 23 => { s with resFilt := x }
    | 24 => { s with modeVol := x }
    | 25 => { s with potx := x }
    | 26 => { s with poty := x }
    | _ => s

/-- A CPU read of a sound register (R431, R432): the paddles, voice 3's waveform (its top 8 bits) and
envelope; every other offset reads 0. A read changes nothing. -/
def Sound.readReg (n : BitVec 5) (s : Sound) : Byte :=
  match n.toNat with
  | 25 => s.potx
  | 26 => s.poty
  | 27 => (s.v2.wave (s.v1.acc.getLsbD 23)).extractLsb' 4 8
  | 28 => s.v2.env
  | _ => 0x00#8

/-! ### Reset (R672, R673, R75) -/

/-- The card after a machine reset. A warm reset keeps the record of past output (R673). -/
def Sound.reset (k : ResetKind) (s : Sound) : Sound :=
  match k with
  | .cold => Sound.cold
  | .warm => { Sound.cold with out := s.out }

end Sys2Proof.Machine
end

