-- ==== Sys2Proof/Machine/Vdp.lean ====
section
/-!
DEFINITION. The video card as the CPU sees it (`46_vdp.md` R350 to R367): the two ports, the register
fields and the table bases, and its reset. The rasterizer is in `Machine/Render.lean`.
-/

namespace Sys2Proof.Machine

/-! ### Registers (R36, R360 to R362) -/

/-- Register `n` of the eight. -/
def VdpRegs.get (r : VdpRegs) (n : BitVec 3) : Byte :=
  match n.toNat with
  | 0 => r.r0
  | 1 => r.r1
  | 2 => r.r2
  | 3 => r.r3
  | 4 => r.r4
  | 5 => r.r5
  | 6 => r.r6
  | _ => r.r7

/-- Put register `n` of the eight. -/
def VdpRegs.set (r : VdpRegs) (n : BitVec 3) (x : Byte) : VdpRegs :=
  match n.toNat with
  | 0 => { r with r0 := x }
  | 1 => { r with r1 := x }
  | 2 => { r with r2 := x }
  | 3 => { r with r3 := x }
  | 4 => { r with r4 := x }
  | 5 => { r with r5 := x }
  | 6 => { r with r6 := x }
  | _ => { r with r7 := x }

/-- The display modes (R361). `unlisted` is M1 and M2 both set with M3 clear: the picture is a free
value, all else as in Graphics I (U6, log entry 12). -/
inductive VdpMode where
  | graphics1
  | graphics2
  | text
  | multicolor
  | unlisted
deriving DecidableEq, Repr

/-- The mode, a pure function of the registers (R361, R362). -/
def VdpRegs.mode (r : VdpRegs) : VdpMode :=
  if r.r0.getLsbD 1 then .graphics2
  else
    match r.r1.getLsbD 4, r.r1.getLsbD 3 with
    | false, false => .graphics1
    | false, true => .multicolor
    | true, false => .text
    | true, true => .unlisted

/-- `R[1]` bit 6: display enabled (R360). -/
def VdpRegs.displayOn (r : VdpRegs) : Bool := r.r1.getLsbD 6

/-- `IE`, `R[1]` bit 5 (R360). -/
def VdpRegs.ie (r : VdpRegs) : Bool := r.r1.getLsbD 5

/-- Sprite size in pattern pixels, from `R[1]` bit 1 (R394). -/
def VdpRegs.spriteSize (r : VdpRegs) : Nat := if r.r1.getLsbD 1 then 16 else 8

/-- `MAG`, `R[1]` bit 0, as a shift (R394). -/
def VdpRegs.mag (r : VdpRegs) : Nat := if r.r1.getLsbD 0 then 1 else 0

/-- `NT` (R360). -/
def VdpRegs.nameBase (r : VdpRegs) : Nat := (r.r2 &&& 0x0F#8).toNat <<< 10

/-- `CT` in Graphics I (R360). -/
def VdpRegs.colorBase (r : VdpRegs) : Nat := r.r3.toNat <<< 6

/-- `CT` in Graphics II (R360). -/
def VdpRegs.colorBase2 (r : VdpRegs) : Nat := (r.r3 &&& 0x80#8).toNat <<< 6

/-- `PT` (R360). -/
def VdpRegs.patternBase (r : VdpRegs) : Nat := (r.r4 &&& 0x07#8).toNat <<< 11

/-- `PT` in Graphics II (R360). -/
def VdpRegs.patternBase2 (r : VdpRegs) : Nat := (r.r4 &&& 0x04#8).toNat <<< 11

/-- `SAT` (R360). -/
def VdpRegs.spriteAttrBase (r : VdpRegs) : Nat := (r.r5 &&& 0x7F#8).toNat <<< 7

/-- `SPT` (R360). -/
def VdpRegs.spritePatternBase (r : VdpRegs) : Nat := (r.r6 &&& 0x07#8).toNat <<< 11

/-- `BD` (R360). -/
def VdpRegs.backdrop (r : VdpRegs) : BitVec 4 := r.r7.extractLsb' 0 4

/-- `TF` (R360). -/
def VdpRegs.textColor (r : VdpRegs) : BitVec 4 := r.r7.extractLsb' 4 4

/-! ### Ports (R363 to R366) -/

/-- `VRAM[a]`, the address reduced to 14 bits (R351). -/
def Vdp.vramAt (d : Vdp) (a : Nat) : Byte := Memory.read d.vram (a % 16384)

/-- Fetch the byte at the address pointer into the read-ahead buffer and increment (R363, R365). -/
def Vdp.prefetch (d : Vdp) : Vdp :=
  { d with readbuf := Memory.read d.vram d.addr.toNat, addr := d.addr + 1 }

/-- Control-port write (R363). -/
def Vdp.writeControl (x : Byte) (d : Vdp) : Vdp :=
  if d.latched then
    let d1 := { d with latched := false }
    if x.getLsbD 7 then { d1 with regs := d1.regs.set (x.extractLsb' 0 3) d1.latchByte }
    else
      let d2 := { d1 with addr := x.extractLsb' 0 6 ++ d1.latchByte }
      if x.getLsbD 6 then d2 else d2.prefetch
  else { d with latchByte := x, latched := true }

/-- Data-port write (R364). -/
def Vdp.writeData (x : Byte) (d : Vdp) : Vdp :=
  { d with
    vram := Memory.write d.vram d.addr.toNat x
    readbuf := x
    addr := d.addr + 1
    latched := false }

/-- Data-port read (R365). -/
def Vdp.readData (d : Vdp) : Byte × Vdp := (d.readbuf, { d.prefetch with latched := false })

/-- Status read (R366). -/
def Vdp.readStatus (d : Vdp) : Byte × Vdp := (d.status, { d with status := 0x00#8, latched := false })

/-- A CPU read of the card: even address data, odd address status (R350). -/
def Vdp.readPort (odd : Bool) (d : Vdp) : Byte × Vdp := if odd then d.readStatus else d.readData

/-- A CPU write of the card: even address data, odd address control (R350). -/
def Vdp.writePort (odd : Bool) (x : Byte) (d : Vdp) : Vdp :=
  if odd then d.writeControl x else d.writeData x

/-! ### The picture (R42, R351) -/

/-- The number of active rows (R351). -/
def activeRows : Nat := 192

/-- The number of active columns (R351). -/
def activeColumns : Nat := 256

/-- An active row of the picture: what is listed, else all of the fill colour (log entry 15). -/
def Frame.row (f : Frame) (y : Nat) : List Rgba :=
  (sparseFind f.rows y).getD (List.replicate activeColumns f.fill)

/-- Put an active row of the picture. -/
def Frame.setRow (f : Frame) (y : Nat) (line : List Rgba) : Frame :=
  if line = List.replicate activeColumns f.fill then { f with rows := sparseErase f.rows y }
  else { f with rows := sparseInsert f.rows y line }

/-- The pixel at a column and row of the 320 × 240 buffer; the active picture is centred with borders
of 32 and 24 pixels (R351). -/
def Frame.pixel (f : Frame) (x y : Nat) : Rgba :=
  if 32 ≤ x ∧ x < 288 ∧ 24 ≤ y ∧ y < 216 then (f.row (y - 24)).getD (x - 32) f.fill else f.fill

/-- The byte at an index of the buffer: four bytes for each pixel, in the order R, G, B, A (R42). -/
def Frame.byte (f : Frame) (i : Nat) : Byte :=
  let c := f.pixel (i / 4 % 320) (i / 4 / 320)
  match i % 4 with
  | 0 => c.r
  | 1 => c.g
  | 2 => c.b
  | _ => c.a

/-- The canonical form of a picture: rows in rising order below 192, each of 256 pixels and not all of
the fill colour. -/
def Frame.wf (f : Frame) : Bool :=
  sparseSortedFrom 0 f.rows &&
    f.rows.all (fun r => decide (r.1 < activeRows) && decide (r.2.length = activeColumns) &&
      decide (r.2 ≠ List.replicate activeColumns f.fill))

/-! ### Reset (R672, R673, R75) -/

/-- The card after a machine reset. A warm reset keeps VRAM and the output buffer (R673). The count of
free lines is the model's own and stays. -/
def Vdp.reset (k : ResetKind) (d : Vdp) : Vdp :=
  match k with
  | .cold => { Vdp.cold with linesDrawn := d.linesDrawn }
  | .warm => { Vdp.cold with vram := d.vram, frame := d.frame, linesDrawn := d.linesDrawn }

end Sys2Proof.Machine
end

