-- ==== Sys2Proof/Machine/Via.lean ====
section
/-!
DEFINITION. The VIA (`48_via.md`): its register map, ports, timers, tick, interrupt registers, control
lines, and the attachments as it sees them. Every transition is a function of the card's own state; the
bus and the scheduler deliver the pulses it emits.
-/

namespace Sys2Proof.Machine

/-! ### Interrupt flags (R64, R544) -/

/-- IFR and IER bit 0. -/
def ifrCA2 : BitVec 7 := 0x01#7

/-- IFR and IER bit 1. -/
def ifrCA1 : BitVec 7 := 0x02#7

/-- IFR and IER bit 3. -/
def ifrCB2 : BitVec 7 := 0x08#7

/-- IFR and IER bit 4. -/
def ifrCB1 : BitVec 7 := 0x10#7

/-- IFR and IER bit 5. -/
def ifrT2 : BitVec 7 := 0x20#7

/-- IFR and IER bit 6. -/
def ifrT1 : BitVec 7 := 0x40#7

/-- `act = VIA.IFR & VIA.IER & 0x7F` (R548). -/
def Via.act (v : Via) : BitVec 7 := v.ifr &&& v.ier

/-- Set flags of IFR. -/
def Via.setFlags (m : BitVec 7) (v : Via) : Via := { v with ifr := v.ifr ||| m }

/-- Clear flags of IFR. -/
def Via.clearFlags (m : BitVec 7) (v : Via) : Via := { v with ifr := v.ifr &&& ~~~m }

/-- Whether `act` has a bit set now that was clear before: the VIA then emits one IRQ pulse (R548). -/
def viaGained (before after : BitVec 7) : Bool := decide (after &&& ~~~before ≠ 0)

/-- The seven stored bits of a byte written to IFR or IER (R546, R547). -/
def flagBits (v : Byte) : BitVec 7 := v.extractLsb' 0 7

/-- What a read of IFR returns: bit 7 is computed, 1 exactly when `act` is not 0 (R545). -/
def Via.ifrByte (v : Via) : Byte := BitVec.ofBool (decide (v.act ≠ 0)) ++ v.ifr

/-- What a read of IER returns: bit 7 reads as 1 (R547). -/
def Via.ierByte (v : Via) : Byte := (1#1) ++ v.ier

/-! ### Attachments (R560, R561) -/

/-- Record one call to the attachment at a place of a port's list (log entry 27). -/
def Via.note (p : Port) (i : Nat) (c : AttachCall) (v : Via) : Via :=
  { v with notices := v.notices ++ [⟨p, i, c⟩] }

/-- The attachment list of a port (R66). -/
def Via.list (p : Port) (v : Via) : List Attachment :=
  match p with
  | .a => v.portA
  | .b => v.portB

/-- Put the attachment list of a port. -/
def Via.setList (p : Port) (ts : List Attachment) (v : Via) : Via :=
  match p with
  | .a => { v with portA := ts }
  | .b => { v with portB := ts }

/-- The records of one call made to every attachment of a port's list, in priority order. -/
def callAll (p : Port) (ts : List Attachment) (c : AttachCall) : List Notice :=
  (List.range ts.length).map fun i => ⟨p, i, c⟩

/-- Call every attachment of a port's list. -/
def Via.notePort (p : Port) (c : AttachCall) (v : Via) : Via :=
  { v with notices := v.notices ++ callAll p (v.list p) c }

/-- Call every attachment of both lists, Port A first: the order of R540. Where a rule only says that every
attachment of both lists is called (R520 to R523, R552, R672), that order is the model's choice (DESIGN
CHOICE, log entry 36). -/
def Via.noteBoth (c : AttachCall) (v : Via) : Via := (v.notePort .a c).notePort .b c

/-- The answer of one attachment to one question: the answer, the attachment after it, and how many
free answers were drawn. -/
structure Answer (α : Type) where
  value : α
  attachment : Attachment
  drawn : Nat

/-- `isEnabled()` (R560): the next listed answer, else a free value (U13). -/
def askEnabled (t : Attachment) (drawn : Nat) : Answer Bool :=
  match t.enabled with
  | e :: es => ⟨e, { t with enabled := es }, drawn⟩
  | [] => ⟨Config.attachEnabled drawn, t, drawn + 1⟩

/-- `readPortA` or `readPortB` (R560): the next listed answer, else a free value (U13). -/
def askRead (t : Attachment) (drawn : Nat) : Answer Byte :=
  match t.reads with
  | b :: bs => ⟨b, { t with reads := bs }, drawn⟩
  | [] => ⟨Config.attachByte drawn, t, drawn + 1⟩

/-- `hasCA1/CA2/CB1/CB2Interrupt()` (R560): the next listed answer, else a free value (U13). -/
def askRequests (t : Attachment) (drawn : Nat) : Answer Requests :=
  match t.requests with
  | r :: rs => ⟨r, { t with requests := rs }, drawn⟩
  | [] => ⟨Config.attachRequests drawn, t, drawn + 1⟩

/-- What a scan of an attachment list gives: the value gathered, the list after it, the calls made and
the free answers drawn. -/
structure Scan (α : Type) where
  value : α
  list : List Attachment
  calls : List Notice
  drawn : Nat

/-- The external source of a port (R520): the AND of what every enabled attachment returns, in
priority order; `0xFF` when none is enabled. `ext` is the AND so far, `i` the place in the list. -/
def scanPort (p : Port) (ddr orv : Byte) (i : Nat) (ext : Byte) (drawn : Nat) :
    List Attachment → Scan Byte
  | [] => ⟨ext, [], [], drawn⟩
  | t :: ts =>
    let en := askEnabled t drawn
    if en.value then
      let rd := askRead en.attachment en.drawn
      let r := scanPort p ddr orv (i + 1) (ext &&& rd.value) rd.drawn ts
      { r with
        list := rd.attachment :: r.list
        calls := ⟨p, i, .isEnabled⟩ :: ⟨p, i, .readPort ddr orv⟩ :: r.calls }
    else
      let r := scanPort p ddr orv (i + 1) ext en.drawn ts
      { r with list := en.attachment :: r.list, calls := ⟨p, i, .isEnabled⟩ :: r.calls }

/-- The IFR bits that one attachment's answers set (R540). -/
def requestFlags (r : Requests) : BitVec 7 :=
  (if r.ca1 then ifrCA1 else 0) ||| (if r.ca2 then ifrCA2 else 0) |||
    (if r.cb1 then ifrCB1 else 0) ||| (if r.cb2 then ifrCB2 else 0)

/-- The poll of one list (R540): every attachment, enabled or not, in priority order; the value is the
IFR bits to set. -/
def scanRequests (p : Port) (i : Nat) (flags : BitVec 7) (drawn : Nat) :
    List Attachment → Scan (BitVec 7)
  | [] => ⟨flags, [], [], drawn⟩
  | t :: ts =>
    let rq := askRequests t drawn
    let r := scanRequests p (i + 1) (flags ||| requestFlags rq.value) rq.drawn ts
    { r with list := rq.attachment :: r.list, calls := ⟨p, i, .pollInterrupts⟩ :: r.calls }

/-- Insert an attachment behind those of lower or equal priority number: the stable sort of R561. -/
def insertByPriority (t : Attachment) : List Attachment → List Attachment
  | [] => [t]
  | u :: us => if t.priority < u.priority then t :: u :: us else u :: insertByPriority t us

/-- Where `insertByPriority` puts the attachment. -/
def insertIndex (t : Attachment) : List Attachment → Nat
  | [] => 0
  | u :: us => if t.priority < u.priority then 0 else insertIndex t us + 1

/-- Attach a device to a port at construction (R561): refused when the list already holds 8 (U12);
the new attachment is told the control lines. -/
def Via.attach (p : Port) (t : Attachment) (v : Via) : Option Via :=
  if (v.list p).length < 8 then
    some ((v.setList p (insertByPriority t (v.list p))).note p (insertIndex t (v.list p))
      (.updateControlLines v.ca1 v.ca2 v.cb1 v.cb2))
  else none

/-! ### Ports (R520 to R524) -/

/-- The output and direction registers of a port (R60). -/
def Via.orReg (p : Port) (v : Via) : Byte :=
  match p with
  | .a => v.ora
  | .b => v.orb

/-- The direction register of a port (R60). -/
def Via.ddrReg (p : Port) (v : Via) : Byte :=
  match p with
  | .a => v.ddra
  | .b => v.ddrb

/-- The byte a port read returns: output bits from the output register, input bits from the external
source (R520, R521). -/
def portValue (orv ddr ext : Byte) : Byte := (orv &&& ddr) ||| (ext &&& ~~~ddr)

/-- Read a port without the handshake: ask the attachments and combine (R520, R521). -/
def Via.readPort (p : Port) (v : Via) : Byte × Via :=
  let r := scanPort p (v.ddrReg p) (v.orReg p) 0 0xFF#8 v.drawn (v.list p)
  (portValue (v.orReg p) (v.ddrReg p) r.value,
    { v.setList p r.list with notices := v.notices ++ r.calls, drawn := r.drawn })

/-- The handshake of a port: clear its two flags and tell every attachment (R520 to R523). -/
def Via.handshake (p : Port) (v : Via) : Via :=
  match p with
  | .a => (v.clearFlags (ifrCA1 ||| ifrCA2)).noteBoth (.clearInterrupts true true false false)
  | .b => (v.clearFlags (ifrCB1 ||| ifrCB2)).noteBoth (.clearInterrupts false false true true)

/-- Read a port with the handshake (R520 offset 1, R521). -/
def Via.readPortHandshake (p : Port) (v : Via) : Byte × Via :=
  let r := v.readPort p
  (r.1, r.2.handshake p)

/-- Write a port without the handshake: store all eight bits and tell every attachment of the port's
list (R522, R523). -/
def Via.writePort (p : Port) (x : Byte) (v : Via) : Via :=
  match p with
  | .a => ({ v with ora := x } : Via).notePort .a (.writePort x v.ddra)
  | .b => ({ v with orb := x } : Via).notePort .b (.writePort x v.ddrb)

/-! ### Control lines (R552) -/

/-- CA2 or CB2 from its PCR field: 0 exactly when the field is `0b110`. -/
def lineOf (field : BitVec 3) : Bool := decide (field ≠ 0b110#3)

/-- Write PCR: store it, recompute CA2 and CB2, and tell every attachment if either changed (R552). -/
def Via.writePcr (x : Byte) (v : Via) : Via :=
  let v1 := { v with
    pcr := x
    ca2 := lineOf (x.extractLsb' 1 3)
    cb2 := lineOf (x.extractLsb' 5 3) }
  if v1.ca2 = v.ca2 ∧ v1.cb2 = v.cb2 then v1
  else v1.noteBoth (.updateControlLines v1.ca1 v1.ca2 v1.cb1 v1.cb2)

/-! ### The register map (R510) -/

/-- Write T1C-H: load and start T1 (R531). -/
def Via.startT1 (x : Byte) (v : Via) : Via :=
  let latch := word x (lo v.t1l)
  ({ v with t1l := latch, t1c := latch, t1Running := true, t1ReloadPending := false } : Via).clearFlags ifrT1

/-- Write T2C-H: load and start T2 (R535). -/
def Via.startT2 (x : Byte) (v : Via) : Via :=
  ({ v with t2c := word x v.t2l, t2Running := true } : Via).clearFlags ifrT2

/-- A CPU read of a VIA register (R510). -/
def Via.readReg (n : BitVec 4) (v : Via) : Byte × Via :=
  match n.toNat with
  | 0 => v.readPortHandshake .b
  | 1 => v.readPortHandshake .a
  | 2 => (v.ddrb, v)
  | 3 => (v.ddra, v)
  | 4 => (lo v.t1c, v.clearFlags ifrT1)
  | 5 => (hi v.t1c, v)
  | 6 => (lo v.t1l, v)
  | 7 => (hi v.t1l, v)
  | 8 => (lo v.t2c, v.clearFlags ifrT2)
  | 9 => (hi v.t2c, v)
  | 10 => (v.sr, v)
  | 11 => (v.acr, v)
  | 12 => (v.pcr, v)
  | 13 => (v.ifrByte, v)
  | 14 => (v.ierByte, v)
  | _ => v.readPort .a

/-- What a CPU write of a VIA register does to the card (R510). -/
def Via.storeReg (n : BitVec 4) (x : Byte) (v : Via) : Via :=
  match n.toNat with
  | 0 => (v.writePort .b x).handshake .b
  | 1 => (v.writePort .a x).handshake .a
  | 2 => { v with ddrb := x }
  | 3 => { v with ddra := x }
  | 4 => { v with t1l := word (hi v.t1l) x }
  | 5 => v.startT1 x
  | 6 => { v with t1l := word (hi v.t1l) x }
  | 7 => { v with t1l := word x (lo v.t1l) }
  | 8 => { v with t2l := x }
  | 9 => v.startT2 x
  | 10 => { v with sr := x }
  | 11 => { v with acr := x }
  | 12 => v.writePcr x
  | 13 => v.clearFlags (flagBits x)
  | 14 =>
    if x.getLsbD 7 then { v with ier := v.ier ||| flagBits x }
    else { v with ier := v.ier &&& ~~~flagBits x }
  | _ => v.writePort .a x

/-- A CPU write of a VIA register: whether it emits an IRQ pulse (R548), and the card after it. -/
def Via.writeReg (n : BitVec 4) (x : Byte) (v : Via) : Bool × Via :=
  let v1 := v.storeReg n x
  (viaGained v.act v1.act, v1)

/-! ### The tick (R530 to R540) -/

/-- T1 in the tick (R532). -/
def Via.stepT1 (v : Via) : Via :=
  if v.t1ReloadPending then { v with t1c := v.t1l, t1ReloadPending := false }
  else if v.t1Running then
    let c := v.t1c - 1
    if c = 0 then
      { v with
        t1c := c
        ifr := v.ifr ||| ifrT1
        orb := if v.acr.getLsbD 7 then v.orb ^^^ 0x80#8 else v.orb
        t1ReloadPending := v.acr.getLsbD 6
        t1Running := v.acr.getLsbD 6 }
    else { v with t1c := c }
  else v

/-- T2 in the tick (R535). -/
def Via.stepT2 (v : Via) : Via :=
  if v.t2Running then
    let c := v.t2c - 1
    if c = 0 then { v with t2c := c, ifr := v.ifr ||| ifrT2, t2Running := false }
    else { v with t2c := c }
  else v

/-- The poll of one port's attachments in the tick (R540). -/
def Via.pollPort (p : Port) (v : Via) : Via :=
  let r := scanRequests p 0 0 v.drawn (v.list p)
  { v.setList p r.list with
    ifr := v.ifr ||| r.value
    notices := v.notices ++ r.calls
    drawn := r.drawn }

/-- What one tick does to the card: T1, T2, the attachments' ticks, the poll (R540). -/
def Via.advance (v : Via) : Via :=
  ((v.stepT1.stepT2.noteBoth .tick).pollPort .a).pollPort .b

/-- `ViaTick()` (R540): whether it emits an IRQ pulse (R548), and the card after it. -/
def Via.tick (v : Via) : Bool × Via :=
  let v1 := v.advance
  (viaGained v.act v1.act, v1)

/-! ### Reset (R672, R673, R75) -/

/-- The card after a machine reset, cold or warm: every register 0, lines 1; every attachment is reset
and then told the lines. R672 leaves the order among the attachments open; that all `reset()` calls come
first, Port A before Port B, then all `updateControlLines` calls in the same order, is the model's choice
(DESIGN CHOICE, log entry 36). The attachments, the record of calls and the count of free answers stay. -/
def Via.reset (v : Via) : Via :=
  (({ Via.cold with
      portA := v.portA
      portB := v.portB
      notices := v.notices
      drawn := v.drawn } : Via).noteBoth .reset).noteBoth (.updateControlLines true true true true)

end Sys2Proof.Machine
end

