-- ==== Sys2Proof/Machine/Bus.lean ====
section
/-!
DEFINITION. The address decoder and the two bus cycles `MemRead` and `MemWrite` (`20_memory.md` R80 to
R96, `00_scope.md` R11). A pulse that a register access emits is posted and acts when the instruction
ends (R112).
-/

namespace Sys2Proof.Machine

/-- What an address selects (R82). -/
inductive Target where
  | ram (cell : BitVec 15)
  | rom (cell : BitVec 15)
  | cart (cell : BitVec 15)
  | card (id : CardId) (offset : Nat)
  | via (n : BitVec 4)
  | sound (n : BitVec 5)
  | video (odd : Bool)
deriving DecidableEq, Repr

/-- The I/O slot of an address `0x8000-0x9FFF`, in the order of R83, with the offset masked to the width
of the device (R85). -/
def decodeSlot (a : Word) : Target :=
  match (a.extractLsb' 10 3).toNat with
  | 0 => .card .ram1 (a.extractLsb' 0 10).toNat
  | 1 => .card .ram2 (a.extractLsb' 0 10).toNat
  | 2 => .card .rtc (a.extractLsb' 0 5).toNat
  | 3 => .card .storage (a.extractLsb' 0 4).toNat
  | 4 => .card .serial (a.extractLsb' 0 2).toNat
  | 5 => .via (a.extractLsb' 0 4)
  | 6 => .sound (a.extractLsb' 0 5)
  | _ => .video (a.getLsbD 0)

/-- The decoder (R83, R84): total on all 65536 addresses (R86). -/
def decodeAddr (cartPresent : Bool) (a : Word) : Target :=
  if a.getLsbD 15 = false then .ram (a.extractLsb' 0 15)
  else if a.extractLsb' 13 3 = 0b100#3 then decodeSlot a
  else if cartPresent = true ∧ 0xC000#16 ≤ a then .cart (a.extractLsb' 0 15)
  else .rom (a.extractLsb' 0 15)

/-- `MemRead(a, 1)` (R90): the byte and the machine after the target's side effects. -/
def memRead (a : Word) (s : State) : Byte × State :=
  match decodeAddr s.params.cartPresent a with
  | .ram c => (Memory.read s.ram c.toNat, s)
  | .rom c => (Memory.read s.rom c.toNat, s)
  | .cart c => (Memory.read s.cart c.toNat, s)
  | .card k off =>
    ((s.slots.read k off).1,
      { s with slots := (s.slots.read k off).2.2, posted := s.posted ++ (s.slots.read k off).2.1 })
  | .via n => ((s.via.readReg n).1, { s with via := (s.via.readReg n).2 })
  | .sound n => (s.snd.readReg n, s)
  | .video odd => ((s.vdp.readPort odd).1, { s with vdp := (s.vdp.readPort odd).2 })

/-- The IRQ pulse of a VIA register write (R548), if there is one. -/
def irqIf (on : Bool) : List Pulse := if on then [.irq] else []

/-- `MemWrite(a, 1, x)` (R91): a write to ROM or Cart does nothing. -/
def memWrite (a : Word) (x : Byte) (s : State) : State :=
  match decodeAddr s.params.cartPresent a with
  | .ram c => { s with ram := Memory.write s.ram c.toNat x }
  | .rom _ => s
  | .cart _ => s
  | .card k _ => { s with slots := (s.slots.write k).2, posted := s.posted ++ (s.slots.write k).1 }
  | .via n =>
    { s with via := (s.via.writeReg n x).2, posted := s.posted ++ irqIf (s.via.writeReg n x).1 }
  | .sound n => { s with snd := s.snd.writeReg n x }
  | .video odd => { s with vdp := s.vdp.writePort odd x }

/-- `MemRead16(a)` (R11): the low byte at `a` is read first, then the high byte at `a + 1`. -/
def memRead16 (a : Word) (s : State) : Word × State :=
  let l := memRead a s
  let h := memRead (a + 1) l.2
  (word h.1 l.1, h.2)

/-- `Fetch()` (R11): read at `PC` and advance it. -/
def fetch (s : State) : Byte × State :=
  let r := memRead s.pc s
  (r.1, { r.2 with pc := s.pc + 1 })

end Sys2Proof.Machine
end

