-- ==== Sys2Proof/Machine/Operands.lean ====
section
/-!
DEFINITION. The addressing modes (`30_encoding.md` R133 to R148): the effective address of every mode
that has one, and `crossed`. The operand bytes have been fetched already (R131, log entry 5).
-/

namespace Sys2Proof.Machine

/-- The modes with an effective address that is read or written, each with its operand. -/
inductive MemMode where
  /-- `zp` (R136). -/
  | zp (a : Byte)
  /-- `zp,X` (R137). -/
  | zpX (a : Byte)
  /-- `zp,Y` (R138). -/
  | zpY (a : Byte)
  /-- `abs` (R139). -/
  | abs (a : Word)
  /-- `abs,X` (R140). -/
  | absX (a : Word)
  /-- `abs,Y` (R141). -/
  | absY (a : Word)
  /-- `(zp,X)` (R143). -/
  | indX (a : Byte)
  /-- `(zp),Y` (R144). -/
  | indY (a : Byte)
  /-- `(zp)` (R145). -/
  | zpInd (a : Byte)
deriving DecidableEq, Repr

/-- An operand that is read: immediate (R135) or in memory. -/
inductive Operand where
  | imm (v : Byte)
  | mem (m : MemMode)
deriving DecidableEq, Repr

/-- Two addresses lie in different pages (R140). -/
def pageDiffers (a b : Word) : Bool := decide (hi a ≠ hi b)

/-- `MemRead16zp(z)` (R11): both bytes from page zero, the second at `u8(z + 1)`. Page zero is RAM
(R82), so these reads change nothing. -/
def zpPointer (z : Byte) (s : State) : Word :=
  word (memRead (zext16 (z + 1)) s).1 (memRead (zext16 z) s).1

/-- The address a mode starts from, before an index is added to a 16-bit base. -/
def MemMode.base (m : MemMode) (s : State) : Word :=
  match m with
  | .zp a => zext16 a
  | .zpX a => zext16 (a + s.x)
  | .zpY a => zext16 (a + s.y)
  | .abs a => a
  | .absX a => a
  | .absY a => a
  | .indX a => zpPointer (a + s.x) s
  | .indY a => zpPointer a s
  | .zpInd a => zpPointer a s

/-- The unsigned byte a mode adds to its 16-bit base (R148). -/
def MemMode.index (m : MemMode) (s : State) : Byte :=
  match m with
  | .absX _ => s.x
  | .absY _ => s.y
  | .indY _ => s.y
  | .zp _ => 0x00#8
  | .zpX _ => 0x00#8
  | .zpY _ => 0x00#8
  | .abs _ => 0x00#8
  | .indX _ => 0x00#8
  | .zpInd _ => 0x00#8

/-- The effective address `ea` of a mode (R136 to R145); the sum wraps modulo 65536. -/
def eaOf (m : MemMode) (s : State) : Word := m.base s + zext16 (m.index s)

/-- `crossed` of a mode (R136 to R145): the index moved `ea` to another page. -/
def crossedOf (m : MemMode) (s : State) : Bool := pageDiffers (eaOf m s) (m.base s)

/-- Read an operand: immediate makes no bus access (R135), a memory mode makes one read at `ea`. -/
def readOperand (o : Operand) (s : State) : Byte × State :=
  match o with
  | .imm v => (v, s)
  | .mem m => memRead (eaOf m s) s

/-- `crossed` of an operand, false for immediate (R135). -/
def Operand.crossed (o : Operand) (s : State) : Bool :=
  match o with
  | .imm _ => false
  | .mem m => crossedOf m s

/-- The target of a branch with offset `d` when `PC` is the next instruction's address (R147). -/
def branchTarget (d : Byte) (pc : Word) : Word := pc + sext16 d

end Sys2Proof.Machine
end

