-- ==== Sys2Proof/Machine/Ops.lean ====
section
/-!
DEFINITION. The operations the meanings share: the stack, taking a trap and returning from one, the
interrupt pulses, the cost of an instruction, and the four shapes an instruction has (read an operand,
store, read-modify-write, act on registers only).
-/

namespace Sys2Proof.Machine

/-- What an instruction's meaning answers. -/
abbrev Result := Host.Outcome State Fault Refusal

/-! ### The stack (`20_memory.md` R100, R101) -/

/-- The address `SP` designates, in page one (R21). -/
def stackAddr (sp : Byte) : Word := 0x0100#16 + zext16 sp

/-- `Push(v)` (R100). -/
def push (x : Byte) (s : State) : State :=
  { memWrite (stackAddr s.sp) x s with sp := s.sp - 1 }

/-- `Pull()` (R101). -/
def pull (s : State) : Byte × State :=
  memRead (stackAddr (s.sp + 1)) { s with sp := s.sp + 1 }

/-! ### Taking a trap and returning (`60_exceptions.md` R610 to R614, R630) -/

/-- The NMI vector (R102). -/
def nmiVector : Word := 0xFFFA#16

/-- The RESET vector (R102). -/
def resetVector : Word := 0xFFFC#16

/-- The IRQ and BRK vector (R102). -/
def irqVector : Word := 0xFFFE#16

/-- `TrapEnter(vector, b)` (R611): push `PC` high, `PC` low; set `I`; push the status; go to the vector. -/
def trapEnter (vector : Word) (b : Bool) (s : State) : State :=
  let s1 := push (lo s.pc) (push (hi s.pc) s)
  let s2 := s1.setFlag .i true
  let s3 := push (trapStatus b s2.p) s2
  let v := memRead16 vector s3
  { v.2 with pc := v.1 }

/-- Return from a trap (R329, R630): pull the status, then `PC` low, then `PC` high. -/
def trapReturn (s : State) : State :=
  let m := pull s
  let l := pull { m.2 with p := rtiStatus m.1 }
  let h := pull l.2
  { h.2 with pc := word h.1 l.1 }

/-- Add cycles to what remains of the current instruction (R613). -/
def State.addCycles (n : Nat) (s : State) : State := { s with cyclesRemaining := s.cyclesRemaining + n }

/-- `IrqPulse()` (R613): lost when `I` is set. -/
def irqPulse (s : State) : State :=
  if s.flag .i then s else (trapEnter irqVector false s).addCycles 7

/-- `NmiPulse()` (R614): always taken. -/
def nmiPulse (s : State) : State := (trapEnter nmiVector false s).addCycles 7

/-- One pulse acts (R612 to R614, R620). -/
def deliver (s : State) (p : Pulse) : State :=
  match p with
  | .irq => irqPulse s
  | .nmi => nmiPulse s

/-- Pulses act one after the other, each carried out completely (R625). -/
def deliverAll (ps : List Pulse) (s : State) : State := ps.foldl deliver s

/-- The pulses posted by the running instruction's register accesses act as soon as it has finished
(R112). -/
def deliverPosted (s : State) : State := { deliverAll s.posted s with posted := [] }

/-! ### The cost of an instruction (`30_encoding.md` R131, R160 to R162) -/

/-- `BASE_CYCLES[opcode]` (R160). -/
def baseCost (p : Params) (op : Byte) : Nat := p.baseCycles.getD op.toNat 1

/-- `cycles_remaining <- BASE_CYCLES[opcode] + penalty` (R131). -/
def State.spend (op : Byte) (penalty : Nat) (s : State) : State :=
  { s with cyclesRemaining := baseCost s.params op + penalty }

/-- The page-crossing penalty (R161). -/
def crossPenalty (crossed : Bool) : Nat := if crossed then 1 else 0

/-- The branch penalty (R162). -/
def branchPenalty (taken crossed : Bool) : Nat := if taken then (if crossed then 2 else 1) else 0

/-! ### The shapes of an instruction -/

/-- An instruction that touches no operand: its effect, then its cost. -/
def runPlain (op : Byte) (f : State → State) (s : State) : Result := .next ((f s).spend op 0)

/-- An instruction that reads its operand once (R170, R219), with the page-crossing penalty (R161). -/
def runRead (op : Byte) (o : Operand) (f : Byte → State → State) (s : State) : Result :=
  .next ((f (readOperand o s).1 (readOperand o s).2).spend op (crossPenalty (o.crossed s)))

/-- An instruction that stores a byte once and reads nothing at `ea` (R170, R174), without penalty. -/
def runStore (op : Byte) (m : MemMode) (x : Byte) (s : State) : Result :=
  .next ((memWrite (eaOf m s) x s).spend op 0)

/-- What a read-modify-write instruction makes of the byte it reads: the byte it writes and the new `P`. -/
abbrev Modify := Byte → State → Byte × Byte

/-- A read-modify-write instruction on memory (R274): one read at `ea`, then one write at the same `ea`,
nothing between them. -/
def runModify (op : Byte) (m : MemMode) (f : Modify) (s : State) : Result :=
  let r := memRead (eaOf m s) s
  let w := f r.1 r.2
  .next ((memWrite (eaOf m s) w.1 { r.2 with p := w.2 }).spend op 0)

/-- The accumulator form of a read-modify-write instruction (R134): no bus access. -/
def onA (f : Modify) (s : State) : State := { s with a := (f s.a s).1, p := (f s.a s).2 }

/-- A branch (R293). -/
def runBranch (op : Byte) (d : Byte) (cond : Bool) (s : State) : Result :=
  let target := branchTarget d s.pc
  .next (({ s with pc := if cond then target else s.pc } : State).spend op
    (branchPenalty cond (pageDiffers target s.pc)))

end Sys2Proof.Machine
end

