-- ==== Sys2Proof/Machine/Arith.lean ====
section
/-!
DEFINITION. Add and subtract with carry, binary and decimal (`41_arithmetic_logic.md` R219 to R223).
-/

namespace Sys2Proof.Machine

/-- What an addition or subtraction writes: `A`, `N`, `V`, `Z`, `C` (R220). -/
def State.putAlu (r : AluResult) (s : State) : State := { s with a := r.value, p := aluBits r s.p }

/-- Decimal mode is on: `P.D = 1`, and the machine implements it (R222, U4). -/
def State.decimal (s : State) : Bool := s.flag .d && s.params.decimalImplemented

/-- The sum of `A`, `m` and `C` in the machine's mode (R220, R222). -/
def adcResult (m : Byte) (s : State) : AluResult :=
  if s.decimal then adcDecimal s.a m (s.flag .c) else adcBinary s.a m (s.flag .c)

/-- The difference of `A`, `m` and the borrow in the machine's mode (R221, R223). -/
def sbcResult (m : Byte) (s : State) : AluResult :=
  if s.decimal then sbcDecimal s.a m (s.flag .c) else sbcBinary s.a m (s.flag .c)

/-- A digit above 9 in decimal mode: `A`, `N`, `Z`, `C`, `V` are then free values (U3, log entry 11). -/
def bcdOpen (m : Byte) (s : State) : Bool := s.decimal && !(validBcd s.a && validBcd m)

/-- Put a free decimal result (U3). -/
def State.putFreeAlu (s : State) : State :=
  { s.putAlu (Config.bcdResult s.bcdDrawn) with bcdDrawn := s.bcdDrawn + 1 }

/-- ADC (R220, R222, U3). -/
def addWithCarry (m : Byte) (s : State) : State :=
  if bcdOpen m s then s.putFreeAlu else s.putAlu (adcResult m s)

/-- SBC (R221, R223, U3). -/
def subWithBorrow (m : Byte) (s : State) : State :=
  if bcdOpen m s then s.putFreeAlu else s.putAlu (sbcResult m s)

/-- ADC #, opcode `69` (R220, R135). -/
def execAdcImm (v : Byte) (s : State) : Result := runRead 0x69#8 (.imm v) addWithCarry s

/-- ADC zp, opcode `65` (R220, R136). -/
def execAdcZp (a : Byte) (s : State) : Result := runRead 0x65#8 (.mem (.zp a)) addWithCarry s

/-- ADC zp,X, opcode `75` (R220, R137). -/
def execAdcZpX (a : Byte) (s : State) : Result := runRead 0x75#8 (.mem (.zpX a)) addWithCarry s

/-- ADC abs, opcode `6D` (R220, R139). -/
def execAdcAbs (a : Word) (s : State) : Result := runRead 0x6D#8 (.mem (.abs a)) addWithCarry s

/-- ADC abs,X, opcode `7D` (R220, R140). -/
def execAdcAbsX (a : Word) (s : State) : Result := runRead 0x7D#8 (.mem (.absX a)) addWithCarry s

/-- ADC abs,Y, opcode `79` (R220, R141). -/
def execAdcAbsY (a : Word) (s : State) : Result := runRead 0x79#8 (.mem (.absY a)) addWithCarry s

/-- ADC (zp,X), opcode `61` (R220, R143). -/
def execAdcIndX (a : Byte) (s : State) : Result := runRead 0x61#8 (.mem (.indX a)) addWithCarry s

/-- ADC (zp),Y, opcode `71` (R220, R144). -/
def execAdcIndY (a : Byte) (s : State) : Result := runRead 0x71#8 (.mem (.indY a)) addWithCarry s

/-- ADC (zp), opcode `72` (R220, R145). -/
def execAdcZpInd (a : Byte) (s : State) : Result := runRead 0x72#8 (.mem (.zpInd a)) addWithCarry s

/-- SBC #, opcode `E9` (R221, R135). -/
def execSbcImm (v : Byte) (s : State) : Result := runRead 0xE9#8 (.imm v) subWithBorrow s

/-- SBC zp, opcode `E5` (R221, R136). -/
def execSbcZp (a : Byte) (s : State) : Result := runRead 0xE5#8 (.mem (.zp a)) subWithBorrow s

/-- SBC zp,X, opcode `F5` (R221, R137). -/
def execSbcZpX (a : Byte) (s : State) : Result := runRead 0xF5#8 (.mem (.zpX a)) subWithBorrow s

/-- SBC abs, opcode `ED` (R221, R139). -/
def execSbcAbs (a : Word) (s : State) : Result := runRead 0xED#8 (.mem (.abs a)) subWithBorrow s

/-- SBC abs,X, opcode `FD` (R221, R140). -/
def execSbcAbsX (a : Word) (s : State) : Result := runRead 0xFD#8 (.mem (.absX a)) subWithBorrow s

/-- SBC abs,Y, opcode `F9` (R221, R141). -/
def execSbcAbsY (a : Word) (s : State) : Result := runRead 0xF9#8 (.mem (.absY a)) subWithBorrow s

/-- SBC (zp,X), opcode `E1` (R221, R143). -/
def execSbcIndX (a : Byte) (s : State) : Result := runRead 0xE1#8 (.mem (.indX a)) subWithBorrow s

/-- SBC (zp),Y, opcode `F1` (R221, R144). -/
def execSbcIndY (a : Byte) (s : State) : Result := runRead 0xF1#8 (.mem (.indY a)) subWithBorrow s

/-- SBC (zp), opcode `F2` (R221, R145). -/
def execSbcZpInd (a : Byte) (s : State) : Result := runRead 0xF2#8 (.mem (.zpInd a)) subWithBorrow s

end Sys2Proof.Machine
end

