-- ==== Sys2Proof/Machine/Control.lean ====
section
/-!
DEFINITION. Jumps, subroutines and branches (`43_control_flow.md` R290 to R303).
-/

namespace Sys2Proof.Machine

/-- Go to the address that a pointer holds, read low byte first (R142, R146). -/
def jumpVia (ptr : Word) (s : State) : State := { (memRead16 ptr s).2 with pc := (memRead16 ptr s).1 }

/-- JSR (R291): push the address of its own last byte, high byte first, and go. -/
def callTo (a : Word) (s : State) : State :=
  let ret := s.pc - 1
  { push (lo ret) (push (hi ret) s) with pc := a }

/-- RTS (R292): pull low, pull high, continue one byte after. -/
def returnFromCall (s : State) : State :=
  let l := pull s
  let h := pull l.2
  { h.2 with pc := word h.1 l.1 + 1 }

/-- JMP abs, opcode `4C` (R290, R139). -/
def execJmpAbs (a : Word) (s : State) : Result := runPlain 0x4C#8 (fun t => { t with pc := a }) s

/-- JMP (abs), opcode `6C` (R290, R142). -/
def execJmpInd (a : Word) (s : State) : Result := runPlain 0x6C#8 (jumpVia a) s

/-- JMP (abs,X), opcode `7C` (R290, R146). -/
def execJmpAbsIndX (a : Word) (s : State) : Result := runPlain 0x7C#8 (fun t => jumpVia (a + zext16 t.x) t) s

/-- JSR abs, opcode `20` (R291, R139). -/
def execJsr (a : Word) (s : State) : Result := runPlain 0x20#8 (callTo a) s

/-- RTS, opcode `60` (R292). -/
def execRts (s : State) : Result := runPlain 0x60#8 returnFromCall s

/-- BCC rel, opcode `90` (R294, R147). -/
def execBcc (d : Byte) (s : State) : Result := runBranch 0x90#8 d (!s.flag .c) s

/-- BCS rel, opcode `B0` (R295, R147). -/
def execBcs (d : Byte) (s : State) : Result := runBranch 0xB0#8 d (s.flag .c) s

/-- BEQ rel, opcode `F0` (R296, R147). -/
def execBeq (d : Byte) (s : State) : Result := runBranch 0xF0#8 d (s.flag .z) s

/-- BNE rel, opcode `D0` (R297, R147). -/
def execBne (d : Byte) (s : State) : Result := runBranch 0xD0#8 d (!s.flag .z) s

/-- BMI rel, opcode `30` (R298, R147). -/
def execBmi (d : Byte) (s : State) : Result := runBranch 0x30#8 d (s.flag .n) s

/-- BPL rel, opcode `10` (R299, R147). -/
def execBpl (d : Byte) (s : State) : Result := runBranch 0x10#8 d (!s.flag .n) s

/-- BVC rel, opcode `50` (R300, R147). -/
def execBvc (d : Byte) (s : State) : Result := runBranch 0x50#8 d (!s.flag .v) s

/-- BVS rel, opcode `70` (R301, R147). -/
def execBvs (d : Byte) (s : State) : Result := runBranch 0x70#8 d (s.flag .v) s

/-- BRA rel, opcode `80` (R302, R147). -/
def execBra (d : Byte) (s : State) : Result := runBranch 0x80#8 d true s

end Sys2Proof.Machine
end

