-- ==== Sys2Proof/Machine/LoadStore.lean ====
section
/-!
DEFINITION. Loads and stores (`40_load_store_transfer_stack.md` R170 to R177).
-/

namespace Sys2Proof.Machine

/-- `A <- m; SetNZ(m)` (R171). -/
def loadA (m : Byte) (s : State) : State := ({ s with a := m } : State).setNZ m

/-- `X <- m; SetNZ(m)` (R172). -/
def loadX (m : Byte) (s : State) : State := ({ s with x := m } : State).setNZ m

/-- `Y <- m; SetNZ(m)` (R173). -/
def loadY (m : Byte) (s : State) : State := ({ s with y := m } : State).setNZ m

/-- LDA #, opcode `A9` (R171, R135). -/
def execLdaImm (v : Byte) (s : State) : Result := runRead 0xA9#8 (.imm v) loadA s

/-- LDA zp, opcode `A5` (R171, R136). -/
def execLdaZp (a : Byte) (s : State) : Result := runRead 0xA5#8 (.mem (.zp a)) loadA s

/-- LDA zp,X, opcode `B5` (R171, R137). -/
def execLdaZpX (a : Byte) (s : State) : Result := runRead 0xB5#8 (.mem (.zpX a)) loadA s

/-- LDA abs, opcode `AD` (R171, R139). -/
def execLdaAbs (a : Word) (s : State) : Result := runRead 0xAD#8 (.mem (.abs a)) loadA s

/-- LDA abs,X, opcode `BD` (R171, R140). -/
def execLdaAbsX (a : Word) (s : State) : Result := runRead 0xBD#8 (.mem (.absX a)) loadA s

/-- LDA abs,Y, opcode `B9` (R171, R141). -/
def execLdaAbsY (a : Word) (s : State) : Result := runRead 0xB9#8 (.mem (.absY a)) loadA s

/-- LDA (zp,X), opcode `A1` (R171, R143). -/
def execLdaIndX (a : Byte) (s : State) : Result := runRead 0xA1#8 (.mem (.indX a)) loadA s

/-- LDA (zp),Y, opcode `B1` (R171, R144). -/
def execLdaIndY (a : Byte) (s : State) : Result := runRead 0xB1#8 (.mem (.indY a)) loadA s

/-- LDA (zp), opcode `B2` (R171, R145). -/
def execLdaZpInd (a : Byte) (s : State) : Result := runRead 0xB2#8 (.mem (.zpInd a)) loadA s

/-- LDX #, opcode `A2` (R172, R135). -/
def execLdxImm (v : Byte) (s : State) : Result := runRead 0xA2#8 (.imm v) loadX s

/-- LDX zp, opcode `A6` (R172, R136). -/
def execLdxZp (a : Byte) (s : State) : Result := runRead 0xA6#8 (.mem (.zp a)) loadX s

/-- LDX zp,Y, opcode `B6` (R172, R138). -/
def execLdxZpY (a : Byte) (s : State) : Result := runRead 0xB6#8 (.mem (.zpY a)) loadX s

/-- LDX abs, opcode `AE` (R172, R139). -/
def execLdxAbs (a : Word) (s : State) : Result := runRead 0xAE#8 (.mem (.abs a)) loadX s

/-- LDX abs,Y, opcode `BE` (R172, R141). -/
def execLdxAbsY (a : Word) (s : State) : Result := runRead 0xBE#8 (.mem (.absY a)) loadX s

/-- LDY #, opcode `A0` (R173, R135). -/
def execLdyImm (v : Byte) (s : State) : Result := runRead 0xA0#8 (.imm v) loadY s

/-- LDY zp, opcode `A4` (R173, R136). -/
def execLdyZp (a : Byte) (s : State) : Result := runRead 0xA4#8 (.mem (.zp a)) loadY s

/-- LDY zp,X, opcode `B4` (R173, R137). -/
def execLdyZpX (a : Byte) (s : State) : Result := runRead 0xB4#8 (.mem (.zpX a)) loadY s

/-- LDY abs, opcode `AC` (R173, R139). -/
def execLdyAbs (a : Word) (s : State) : Result := runRead 0xAC#8 (.mem (.abs a)) loadY s

/-- LDY abs,X, opcode `BC` (R173, R140). -/
def execLdyAbsX (a : Word) (s : State) : Result := runRead 0xBC#8 (.mem (.absX a)) loadY s

/-- STA zp, opcode `85` (R174, R136). -/
def execStaZp (a : Byte) (s : State) : Result := runStore 0x85#8 (.zp a) s.a s

/-- STA zp,X, opcode `95` (R174, R137). -/
def execStaZpX (a : Byte) (s : State) : Result := runStore 0x95#8 (.zpX a) s.a s

/-- STA abs, opcode `8D` (R174, R139). -/
def execStaAbs (a : Word) (s : State) : Result := runStore 0x8D#8 (.abs a) s.a s

/-- STA abs,X, opcode `9D` (R174, R140). -/
def execStaAbsX (a : Word) (s : State) : Result := runStore 0x9D#8 (.absX a) s.a s

/-- STA abs,Y, opcode `99` (R174, R141). -/
def execStaAbsY (a : Word) (s : State) : Result := runStore 0x99#8 (.absY a) s.a s

/-- STA (zp,X), opcode `81` (R174, R143). -/
def execStaIndX (a : Byte) (s : State) : Result := runStore 0x81#8 (.indX a) s.a s

/-- STA (zp),Y, opcode `91` (R174, R144). -/
def execStaIndY (a : Byte) (s : State) : Result := runStore 0x91#8 (.indY a) s.a s

/-- STA (zp), opcode `92` (R174, R145). -/
def execStaZpInd (a : Byte) (s : State) : Result := runStore 0x92#8 (.zpInd a) s.a s

/-- STX zp, opcode `86` (R175, R136). -/
def execStxZp (a : Byte) (s : State) : Result := runStore 0x86#8 (.zp a) s.x s

/-- STX zp,Y, opcode `96` (R175, R138). -/
def execStxZpY (a : Byte) (s : State) : Result := runStore 0x96#8 (.zpY a) s.x s

/-- STX abs, opcode `8E` (R175, R139). -/
def execStxAbs (a : Word) (s : State) : Result := runStore 0x8E#8 (.abs a) s.x s

/-- STY zp, opcode `84` (R176, R136). -/
def execStyZp (a : Byte) (s : State) : Result := runStore 0x84#8 (.zp a) s.y s

/-- STY zp,X, opcode `94` (R176, R137). -/
def execStyZpX (a : Byte) (s : State) : Result := runStore 0x94#8 (.zpX a) s.y s

/-- STY abs, opcode `8C` (R176, R139). -/
def execStyAbs (a : Word) (s : State) : Result := runStore 0x8C#8 (.abs a) s.y s

/-- STZ zp, opcode `64` (R177, R136). -/
def execStzZp (a : Byte) (s : State) : Result := runStore 0x64#8 (.zp a) 0x00#8 s

/-- STZ zp,X, opcode `74` (R177, R137). -/
def execStzZpX (a : Byte) (s : State) : Result := runStore 0x74#8 (.zpX a) 0x00#8 s

/-- STZ abs, opcode `9C` (R177, R139). -/
def execStzAbs (a : Word) (s : State) : Result := runStore 0x9C#8 (.abs a) 0x00#8 s

/-- STZ abs,X, opcode `9E` (R177, R140). -/
def execStzAbsX (a : Word) (s : State) : Result := runStore 0x9E#8 (.absX a) 0x00#8 s

end Sys2Proof.Machine
end

