-- ==== Sys2Proof/Machine/IncDec.lean ====
section
/-!
DEFINITION. Increment, decrement, and test-and-change memory bits (`41_arithmetic_logic.md` R231 to R238).
-/

namespace Sys2Proof.Machine

/-- INC (R231). -/
def incStep : Modify := fun m s => (m + 1, nzBits (m + 1) s.p)

/-- DEC (R232). -/
def decStep : Modify := fun m s => (m - 1, nzBits (m - 1) s.p)

/-- TRB (R237): `Z` from the byte before the write. -/
def trbStep : Modify := fun m s => (m &&& ~~~s.a, testBits s.a m s.p)

/-- TSB (R238): `Z` from the byte before the write. -/
def tsbStep : Modify := fun m s => (m ||| s.a, testBits s.a m s.p)

/-- INC A, opcode `1A` (R231, R134). -/
def execIncA (s : State) : Result := runPlain 0x1A#8 (onA incStep) s

/-- INC zp, opcode `E6` (R231, R136). -/
def execIncZp (a : Byte) (s : State) : Result := runModify 0xE6#8 (.zp a) incStep s

/-- INC zp,X, opcode `F6` (R231, R137). -/
def execIncZpX (a : Byte) (s : State) : Result := runModify 0xF6#8 (.zpX a) incStep s

/-- INC abs, opcode `EE` (R231, R139). -/
def execIncAbs (a : Word) (s : State) : Result := runModify 0xEE#8 (.abs a) incStep s

/-- INC abs,X, opcode `FE` (R231, R140). -/
def execIncAbsX (a : Word) (s : State) : Result := runModify 0xFE#8 (.absX a) incStep s

/-- DEC A, opcode `3A` (R232, R134). -/
def execDecA (s : State) : Result := runPlain 0x3A#8 (onA decStep) s

/-- DEC zp, opcode `C6` (R232, R136). -/
def execDecZp (a : Byte) (s : State) : Result := runModify 0xC6#8 (.zp a) decStep s

/-- DEC zp,X, opcode `D6` (R232, R137). -/
def execDecZpX (a : Byte) (s : State) : Result := runModify 0xD6#8 (.zpX a) decStep s

/-- DEC abs, opcode `CE` (R232, R139). -/
def execDecAbs (a : Word) (s : State) : Result := runModify 0xCE#8 (.abs a) decStep s

/-- DEC abs,X, opcode `DE` (R232, R140). -/
def execDecAbsX (a : Word) (s : State) : Result := runModify 0xDE#8 (.absX a) decStep s

/-- INX, opcode `E8` (R233). -/
def execInx (s : State) : Result := runPlain 0xE8#8 (fun t => loadX (t.x + 1) t) s

/-- INY, opcode `C8` (R234). -/
def execIny (s : State) : Result := runPlain 0xC8#8 (fun t => loadY (t.y + 1) t) s

/-- DEX, opcode `CA` (R235). -/
def execDex (s : State) : Result := runPlain 0xCA#8 (fun t => loadX (t.x - 1) t) s

/-- DEY, opcode `88` (R236). -/
def execDey (s : State) : Result := runPlain 0x88#8 (fun t => loadY (t.y - 1) t) s

/-- TRB zp, opcode `14` (R237, R136). -/
def execTrbZp (a : Byte) (s : State) : Result := runModify 0x14#8 (.zp a) trbStep s

/-- TRB abs, opcode `1C` (R237, R139). -/
def execTrbAbs (a : Word) (s : State) : Result := runModify 0x1C#8 (.abs a) trbStep s

/-- TSB zp, opcode `04` (R238, R136). -/
def execTsbZp (a : Byte) (s : State) : Result := runModify 0x04#8 (.zp a) tsbStep s

/-- TSB abs, opcode `0C` (R238, R139). -/
def execTsbAbs (a : Word) (s : State) : Result := runModify 0x0C#8 (.abs a) tsbStep s

end Sys2Proof.Machine
end

