-- ==== Sys2Proof/Machine/Logic.lean ====
section
/-!
DEFINITION. Logic, compares and bit test (`41_arithmetic_logic.md` R224 to R230).
-/

namespace Sys2Proof.Machine

/-- `A <- A & m; SetNZ(A)` (R224). -/
def andA (m : Byte) (s : State) : State := loadA (s.a &&& m) s

/-- `A <- A | m; SetNZ(A)` (R225). -/
def oraA (m : Byte) (s : State) : State := loadA (s.a ||| m) s

/-- `A <- A ^ m; SetNZ(A)` (R226). -/
def eorA (m : Byte) (s : State) : State := loadA (s.a ^^^ m) s

/-- Compare a register with `m` (R227): `A`, `X`, `Y` and `V` are unchanged. -/
def compareWith (r m : Byte) (s : State) : State := { s with p := compareBits r m s.p }

/-- BIT on memory (R230). -/
def bitTest (m : Byte) (s : State) : State := { s with p := bitBits s.a m s.p }

/-- BIT immediate: `Z` only (R230). -/
def bitTestImm (m : Byte) (s : State) : State := { s with p := testBits s.a m s.p }

/-- AND #, opcode `29` (R224, R135). -/
def execAndImm (v : Byte) (s : State) : Result := runRead 0x29#8 (.imm v) andA s

/-- AND zp, opcode `25` (R224, R136). -/
def execAndZp (a : Byte) (s : State) : Result := runRead 0x25#8 (.mem (.zp a)) andA s

/-- AND zp,X, opcode `35` (R224, R137). -/
def execAndZpX (a : Byte) (s : State) : Result := runRead 0x35#8 (.mem (.zpX a)) andA s

/-- AND abs, opcode `2D` (R224, R139). -/
def execAndAbs (a : Word) (s : State) : Result := runRead 0x2D#8 (.mem (.abs a)) andA s

/-- AND abs,X, opcode `3D` (R224, R140). -/
def execAndAbsX (a : Word) (s : State) : Result := runRead 0x3D#8 (.mem (.absX a)) andA s

/-- AND abs,Y, opcode `39` (R224, R141). -/
def execAndAbsY (a : Word) (s : State) : Result := runRead 0x39#8 (.mem (.absY a)) andA s

/-- AND (zp,X), opcode `21` (R224, R143). -/
def execAndIndX (a : Byte) (s : State) : Result := runRead 0x21#8 (.mem (.indX a)) andA s

/-- AND (zp),Y, opcode `31` (R224, R144). -/
def execAndIndY (a : Byte) (s : State) : Result := runRead 0x31#8 (.mem (.indY a)) andA s

/-- AND (zp), opcode `32` (R224, R145). -/
def execAndZpInd (a : Byte) (s : State) : Result := runRead 0x32#8 (.mem (.zpInd a)) andA s

/-- ORA #, opcode `09` (R225, R135). -/
def execOraImm (v : Byte) (s : State) : Result := runRead 0x09#8 (.imm v) oraA s

/-- ORA zp, opcode `05` (R225, R136). -/
def execOraZp (a : Byte) (s : State) : Result := runRead 0x05#8 (.mem (.zp a)) oraA s

/-- ORA zp,X, opcode `15` (R225, R137). -/
def execOraZpX (a : Byte) (s : State) : Result := runRead 0x15#8 (.mem (.zpX a)) oraA s

/-- ORA abs, opcode `0D` (R225, R139). -/
def execOraAbs (a : Word) (s : State) : Result := runRead 0x0D#8 (.mem (.abs a)) oraA s

/-- ORA abs,X, opcode `1D` (R225, R140). -/
def execOraAbsX (a : Word) (s : State) : Result := runRead 0x1D#8 (.mem (.absX a)) oraA s

/-- ORA abs,Y, opcode `19` (R225, R141). -/
def execOraAbsY (a : Word) (s : State) : Result := runRead 0x19#8 (.mem (.absY a)) oraA s

/-- ORA (zp,X), opcode `01` (R225, R143). -/
def execOraIndX (a : Byte) (s : State) : Result := runRead 0x01#8 (.mem (.indX a)) oraA s

/-- ORA (zp),Y, opcode `11` (R225, R144). -/
def execOraIndY (a : Byte) (s : State) : Result := runRead 0x11#8 (.mem (.indY a)) oraA s

/-- ORA (zp), opcode `12` (R225, R145). -/
def execOraZpInd (a : Byte) (s : State) : Result := runRead 0x12#8 (.mem (.zpInd a)) oraA s

/-- EOR #, opcode `49` (R226, R135). -/
def execEorImm (v : Byte) (s : State) : Result := runRead 0x49#8 (.imm v) eorA s

/-- EOR zp, opcode `45` (R226, R136). -/
def execEorZp (a : Byte) (s : State) : Result := runRead 0x45#8 (.mem (.zp a)) eorA s

/-- EOR zp,X, opcode `55` (R226, R137). -/
def execEorZpX (a : Byte) (s : State) : Result := runRead 0x55#8 (.mem (.zpX a)) eorA s

/-- EOR abs, opcode `4D` (R226, R139). -/
def execEorAbs (a : Word) (s : State) : Result := runRead 0x4D#8 (.mem (.abs a)) eorA s

/-- EOR abs,X, opcode `5D` (R226, R140). -/
def execEorAbsX (a : Word) (s : State) : Result := runRead 0x5D#8 (.mem (.absX a)) eorA s

/-- EOR abs,Y, opcode `59` (R226, R141). -/
def execEorAbsY (a : Word) (s : State) : Result := runRead 0x59#8 (.mem (.absY a)) eorA s

/-- EOR (zp,X), opcode `41` (R226, R143). -/
def execEorIndX (a : Byte) (s : State) : Result := runRead 0x41#8 (.mem (.indX a)) eorA s

/-- EOR (zp),Y, opcode `51` (R226, R144). -/
def execEorIndY (a : Byte) (s : State) : Result := runRead 0x51#8 (.mem (.indY a)) eorA s

/-- EOR (zp), opcode `52` (R226, R145). -/
def execEorZpInd (a : Byte) (s : State) : Result := runRead 0x52#8 (.mem (.zpInd a)) eorA s

/-- CMP #, opcode `C9` (R227, R135). -/
def execCmpImm (v : Byte) (s : State) : Result := runRead 0xC9#8 (.imm v) (fun m t => compareWith t.a m t) s

/-- CMP zp, opcode `C5` (R227, R136). -/
def execCmpZp (a : Byte) (s : State) : Result :=
  runRead 0xC5#8 (.mem (.zp a)) (fun m t => compareWith t.a m t) s

/-- CMP zp,X, opcode `D5` (R227, R137). -/
def execCmpZpX (a : Byte) (s : State) : Result :=
  runRead 0xD5#8 (.mem (.zpX a)) (fun m t => compareWith t.a m t) s

/-- CMP abs, opcode `CD` (R227, R139). -/
def execCmpAbs (a : Word) (s : State) : Result :=
  runRead 0xCD#8 (.mem (.abs a)) (fun m t => compareWith t.a m t) s

/-- CMP abs,X, opcode `DD` (R227, R140). -/
def execCmpAbsX (a : Word) (s : State) : Result :=
  runRead 0xDD#8 (.mem (.absX a)) (fun m t => compareWith t.a m t) s

/-- CMP abs,Y, opcode `D9` (R227, R141). -/
def execCmpAbsY (a : Word) (s : State) : Result :=
  runRead 0xD9#8 (.mem (.absY a)) (fun m t => compareWith t.a m t) s

/-- CMP (zp,X), opcode `C1` (R227, R143). -/
def execCmpIndX (a : Byte) (s : State) : Result :=
  runRead 0xC1#8 (.mem (.indX a)) (fun m t => compareWith t.a m t) s

/-- CMP (zp),Y, opcode `D1` (R227, R144). -/
def execCmpIndY (a : Byte) (s : State) : Result :=
  runRead 0xD1#8 (.mem (.indY a)) (fun m t => compareWith t.a m t) s

/-- CMP (zp), opcode `D2` (R227, R145). -/
def execCmpZpInd (a : Byte) (s : State) : Result :=
  runRead 0xD2#8 (.mem (.zpInd a)) (fun m t => compareWith t.a m t) s

/-- CPX #, opcode `E0` (R228, R135). -/
def execCpxImm (v : Byte) (s : State) : Result := runRead 0xE0#8 (.imm v) (fun m t => compareWith t.x m t) s

/-- CPX zp, opcode `E4` (R228, R136). -/
def execCpxZp (a : Byte) (s : State) : Result :=
  runRead 0xE4#8 (.mem (.zp a)) (fun m t => compareWith t.x m t) s

/-- CPX abs, opcode `EC` (R228, R139). -/
def execCpxAbs (a : Word) (s : State) : Result :=
  runRead 0xEC#8 (.mem (.abs a)) (fun m t => compareWith t.x m t) s

/-- CPY #, opcode `C0` (R229, R135). -/
def execCpyImm (v : Byte) (s : State) : Result := runRead 0xC0#8 (.imm v) (fun m t => compareWith t.y m t) s

/-- CPY zp, opcode `C4` (R229, R136). -/
def execCpyZp (a : Byte) (s : State) : Result :=
  runRead 0xC4#8 (.mem (.zp a)) (fun m t => compareWith t.y m t) s

/-- CPY abs, opcode `CC` (R229, R139). -/
def execCpyAbs (a : Word) (s : State) : Result :=
  runRead 0xCC#8 (.mem (.abs a)) (fun m t => compareWith t.y m t) s

/-- BIT #, opcode `89` (R230, R135). -/
def execBitImm (v : Byte) (s : State) : Result := runRead 0x89#8 (.imm v) bitTestImm s

/-- BIT zp, opcode `24` (R230, R136). -/
def execBitZp (a : Byte) (s : State) : Result := runRead 0x24#8 (.mem (.zp a)) bitTest s

/-- BIT zp,X, opcode `34` (R230, R137). -/
def execBitZpX (a : Byte) (s : State) : Result := runRead 0x34#8 (.mem (.zpX a)) bitTest s

/-- BIT abs, opcode `2C` (R230, R139). -/
def execBitAbs (a : Word) (s : State) : Result := runRead 0x2C#8 (.mem (.abs a)) bitTest s

/-- BIT abs,X, opcode `3C` (R230, R140). -/
def execBitAbsX (a : Word) (s : State) : Result := runRead 0x3C#8 (.mem (.absX a)) bitTest s

end Sys2Proof.Machine
end

