-- ==== Sys2Proof/Machine/Shift.lean ====
section
/-!
DEFINITION. Shifts and rotates (`42_shift_rotate.md` R269 to R274).
-/

namespace Sys2Proof.Machine

/-- A shift of a byte with its flags (R269). -/
def shiftStep (r : Shifted) (s : State) : Byte × Byte := (r.1, shiftBits r.1 r.2 s.p)

/-- ASL (R270). -/
def aslStep : Modify := fun m s => shiftStep (aslByte m) s

/-- LSR (R271). -/
def lsrStep : Modify := fun m s => shiftStep (lsrByte m) s

/-- ROL (R272). -/
def rolStep : Modify := fun m s => shiftStep (rolByte (s.flag .c) m) s

/-- ROR (R273). -/
def rorStep : Modify := fun m s => shiftStep (rorByte (s.flag .c) m) s

/-- ASL A, opcode `0A` (R270, R134). -/
def execAslA (s : State) : Result := runPlain 0x0A#8 (onA aslStep) s

/-- ASL zp, opcode `06` (R270, R136). -/
def execAslZp (a : Byte) (s : State) : Result := runModify 0x06#8 (.zp a) aslStep s

/-- ASL zp,X, opcode `16` (R270, R137). -/
def execAslZpX (a : Byte) (s : State) : Result := runModify 0x16#8 (.zpX a) aslStep s

/-- ASL abs, opcode `0E` (R270, R139). -/
def execAslAbs (a : Word) (s : State) : Result := runModify 0x0E#8 (.abs a) aslStep s

/-- ASL abs,X, opcode `1E` (R270, R140). -/
def execAslAbsX (a : Word) (s : State) : Result := runModify 0x1E#8 (.absX a) aslStep s

/-- LSR A, opcode `4A` (R271, R134). -/
def execLsrA (s : State) : Result := runPlain 0x4A#8 (onA lsrStep) s

/-- LSR zp, opcode `46` (R271, R136). -/
def execLsrZp (a : Byte) (s : State) : Result := runModify 0x46#8 (.zp a) lsrStep s

/-- LSR zp,X, opcode `56` (R271, R137). -/
def execLsrZpX (a : Byte) (s : State) : Result := runModify 0x56#8 (.zpX a) lsrStep s

/-- LSR abs, opcode `4E` (R271, R139). -/
def execLsrAbs (a : Word) (s : State) : Result := runModify 0x4E#8 (.abs a) lsrStep s

/-- LSR abs,X, opcode `5E` (R271, R140). -/
def execLsrAbsX (a : Word) (s : State) : Result := runModify 0x5E#8 (.absX a) lsrStep s

/-- ROL A, opcode `2A` (R272, R134). -/
def execRolA (s : State) : Result := runPlain 0x2A#8 (onA rolStep) s

/-- ROL zp, opcode `26` (R272, R136). -/
def execRolZp (a : Byte) (s : State) : Result := runModify 0x26#8 (.zp a) rolStep s

/-- ROL zp,X, opcode `36` (R272, R137). -/
def execRolZpX (a : Byte) (s : State) : Result := runModify 0x36#8 (.zpX a) rolStep s

/-- ROL abs, opcode `2E` (R272, R139). -/
def execRolAbs (a : Word) (s : State) : Result := runModify 0x2E#8 (.abs a) rolStep s

/-- ROL abs,X, opcode `3E` (R272, R140). -/
def execRolAbsX (a : Word) (s : State) : Result := runModify 0x3E#8 (.absX a) rolStep s

/-- ROR A, opcode `6A` (R273, R134). -/
def execRorA (s : State) : Result := runPlain 0x6A#8 (onA rorStep) s

/-- ROR zp, opcode `66` (R273, R136). -/
def execRorZp (a : Byte) (s : State) : Result := runModify 0x66#8 (.zp a) rorStep s

/-- ROR zp,X, opcode `76` (R273, R137). -/
def execRorZpX (a : Byte) (s : State) : Result := runModify 0x76#8 (.zpX a) rorStep s

/-- ROR abs, opcode `6E` (R273, R139). -/
def execRorAbs (a : Word) (s : State) : Result := runModify 0x6E#8 (.abs a) rorStep s

/-- ROR abs,X, opcode `7E` (R273, R140). -/
def execRorAbsX (a : Word) (s : State) : Result := runModify 0x7E#8 (.absX a) rorStep s

end Sys2Proof.Machine
end

