-- ==== Sys2Proof/Machine/System.lean ====
section
/-!
DEFINITION. Flag instructions, NOP, BRK and RTI (`44_flags_system.md` R320 to R329).
-/

namespace Sys2Proof.Machine

/-- BRK's effect (R328, R612): skip the padding byte, then the trap entry with `B = 1`. -/
def breakTrap (s : State) : State := trapEnter irqVector true { s with pc := s.pc + 1 }

/-- CLC, opcode `18` (R320). -/
def execClc (s : State) : Result := runPlain 0x18#8 (State.setFlag .c false) s

/-- SEC, opcode `38` (R321). -/
def execSec (s : State) : Result := runPlain 0x38#8 (State.setFlag .c true) s

/-- CLI, opcode `58` (R322). -/
def execCli (s : State) : Result := runPlain 0x58#8 (State.setFlag .i false) s

/-- SEI, opcode `78` (R323). -/
def execSei (s : State) : Result := runPlain 0x78#8 (State.setFlag .i true) s

/-- CLD, opcode `D8` (R324). -/
def execCld (s : State) : Result := runPlain 0xD8#8 (State.setFlag .d false) s

/-- SED, opcode `F8` (R325). -/
def execSed (s : State) : Result := runPlain 0xF8#8 (State.setFlag .d true) s

/-- CLV, opcode `B8` (R326). -/
def execClv (s : State) : Result := runPlain 0xB8#8 (State.setFlag .v false) s

/-- NOP, opcode `EA` (R327). -/
def execNop (s : State) : Result := runPlain 0xEA#8 (fun t => t) s

/-- BRK, opcode `00` (R328). -/
def execBrk (s : State) : Result := runPlain 0x00#8 breakTrap s

/-- RTI, opcode `40` (R329). -/
def execRti (s : State) : Result := runPlain 0x40#8 trapReturn s

end Sys2Proof.Machine
end

