-- ==== Sys2Proof/Machine/Transfer.lean ====
section
/-!
DEFINITION. Register transfers and stack instructions (`40_load_store_transfer_stack.md` R178 to R191).
-/

namespace Sys2Proof.Machine

/-- TAX, opcode `AA` (R178). -/
def execTax (s : State) : Result := runPlain 0xAA#8 (fun t => loadX t.a t) s

/-- TAY, opcode `A8` (R179). -/
def execTay (s : State) : Result := runPlain 0xA8#8 (fun t => loadY t.a t) s

/-- TXA, opcode `8A` (R180). -/
def execTxa (s : State) : Result := runPlain 0x8A#8 (fun t => loadA t.x t) s

/-- TYA, opcode `98` (R181). -/
def execTya (s : State) : Result := runPlain 0x98#8 (fun t => loadA t.y t) s

/-- TSX, opcode `BA` (R182). -/
def execTsx (s : State) : Result := runPlain 0xBA#8 (fun t => loadX t.sp t) s

/-- TXS, opcode `9A` (R183). -/
def execTxs (s : State) : Result := runPlain 0x9A#8 (fun t => { t with sp := t.x }) s

/-- PHA, opcode `48` (R184). -/
def execPha (s : State) : Result := runPlain 0x48#8 (fun t => push t.a t) s

/-- PHP, opcode `08` (R185). -/
def execPhp (s : State) : Result := runPlain 0x08#8 (fun t => push (phpStatus t.p) t) s

/-- PHX, opcode `DA` (R188). -/
def execPhx (s : State) : Result := runPlain 0xDA#8 (fun t => push t.x t) s

/-- PHY, opcode `5A` (R189). -/
def execPhy (s : State) : Result := runPlain 0x5A#8 (fun t => push t.y t) s

/-- PLA, opcode `68` (R186). -/
def execPla (s : State) : Result := runPlain 0x68#8 (fun t => loadA (pull t).1 (pull t).2) s

/-- PLX, opcode `FA` (R190). -/
def execPlx (s : State) : Result := runPlain 0xFA#8 (fun t => loadX (pull t).1 (pull t).2) s

/-- PLY, opcode `7A` (R191). -/
def execPly (s : State) : Result := runPlain 0x7A#8 (fun t => loadY (pull t).1 (pull t).2) s

/-- PLP, opcode `28` (R187). -/
def execPlp (s : State) : Result :=
  runPlain 0x28#8 (fun t => { (pull t).2 with p := plpStatus (pull t).1 t.p }) s

end Sys2Proof.Machine
end

