-- ==== Sys2Proof/Machine/Undefined.lean ====
section
/-!
DEFINITION. The 78 undefined opcodes, each a one-byte no-operation (`44_flags_system.md` R330, `30_encoding.md` R153).
-/

namespace Sys2Proof.Machine

/-- The effect of every undefined opcode: nothing beyond the opcode fetch (R330, R153). -/
def noEffect (s : State) : State := s

/-- NOP_UNK $02, opcode `02` (R330). -/
def execNopUnk02 (s : State) : Result := runPlain 0x02#8 noEffect s

/-- NOP_UNK $03, opcode `03` (R330). -/
def execNopUnk03 (s : State) : Result := runPlain 0x03#8 noEffect s

/-- NOP_UNK $07, opcode `07` (R330). -/
def execNopUnk07 (s : State) : Result := runPlain 0x07#8 noEffect s

/-- NOP_UNK $0B, opcode `0B` (R330). -/
def execNopUnk0B (s : State) : Result := runPlain 0x0B#8 noEffect s

/-- NOP_UNK $0F, opcode `0F` (R330). -/
def execNopUnk0F (s : State) : Result := runPlain 0x0F#8 noEffect s

/-- NOP_UNK $13, opcode `13` (R330). -/
def execNopUnk13 (s : State) : Result := runPlain 0x13#8 noEffect s

/-- NOP_UNK $17, opcode `17` (R330). -/
def execNopUnk17 (s : State) : Result := runPlain 0x17#8 noEffect s

/-- NOP_UNK $1B, opcode `1B` (R330). -/
def execNopUnk1B (s : State) : Result := runPlain 0x1B#8 noEffect s

/-- NOP_UNK $1F, opcode `1F` (R330). -/
def execNopUnk1F (s : State) : Result := runPlain 0x1F#8 noEffect s

/-- NOP_UNK $22, opcode `22` (R330). -/
def execNopUnk22 (s : State) : Result := runPlain 0x22#8 noEffect s

/-- NOP_UNK $23, opcode `23` (R330). -/
def execNopUnk23 (s : State) : Result := runPlain 0x23#8 noEffect s

/-- NOP_UNK $27, opcode `27` (R330). -/
def execNopUnk27 (s : State) : Result := runPlain 0x27#8 noEffect s

/-- NOP_UNK $2B, opcode `2B` (R330). -/
def execNopUnk2B (s : State) : Result := runPlain 0x2B#8 noEffect s

/-- NOP_UNK $2F, opcode `2F` (R330). -/
def execNopUnk2F (s : State) : Result := runPlain 0x2F#8 noEffect s

/-- NOP_UNK $33, opcode `33` (R330). -/
def execNopUnk33 (s : State) : Result := runPlain 0x33#8 noEffect s

/-- NOP_UNK $37, opcode `37` (R330). -/
def execNopUnk37 (s : State) : Result := runPlain 0x37#8 noEffect s

/-- NOP_UNK $3B, opcode `3B` (R330). -/
def execNopUnk3B (s : State) : Result := runPlain 0x3B#8 noEffect s

/-- NOP_UNK $3F, opcode `3F` (R330). -/
def execNopUnk3F (s : State) : Result := runPlain 0x3F#8 noEffect s

/-- NOP_UNK $42, opcode `42` (R330). -/
def execNopUnk42 (s : State) : Result := runPlain 0x42#8 noEffect s

/-- NOP_UNK $43, opcode `43` (R330). -/
def execNopUnk43 (s : State) : Result := runPlain 0x43#8 noEffect s

/-- NOP_UNK $44, opcode `44` (R330). -/
def execNopUnk44 (s : State) : Result := runPlain 0x44#8 noEffect s

/-- NOP_UNK $47, opcode `47` (R330). -/
def execNopUnk47 (s : State) : Result := runPlain 0x47#8 noEffect s

/-- NOP_UNK $4B, opcode `4B` (R330). -/
def execNopUnk4B (s : State) : Result := runPlain 0x4B#8 noEffect s

/-- NOP_UNK $4F, opcode `4F` (R330). -/
def execNopUnk4F (s : State) : Result := runPlain 0x4F#8 noEffect s

/-- NOP_UNK $53, opcode `53` (R330). -/
def execNopUnk53 (s : State) : Result := runPlain 0x53#8 noEffect s

/-- NOP_UNK $54, opcode `54` (R330). -/
def execNopUnk54 (s : State) : Result := runPlain 0x54#8 noEffect s

/-- NOP_UNK $57, opcode `57` (R330). -/
def execNopUnk57 (s : State) : Result := runPlain 0x57#8 noEffect s

/-- NOP_UNK $5B, opcode `5B` (R330). -/
def execNopUnk5B (s : State) : Result := runPlain 0x5B#8 noEffect s

/-- NOP_UNK $5C, opcode `5C` (R330). -/
def execNopUnk5C (s : State) : Result := runPlain 0x5C#8 noEffect s

/-- NOP_UNK $5F, opcode `5F` (R330). -/
def execNopUnk5F (s : State) : Result := runPlain 0x5F#8 noEffect s

/-- NOP_UNK $62, opcode `62` (R330). -/
def execNopUnk62 (s : State) : Result := runPlain 0x62#8 noEffect s

/-- NOP_UNK $63, opcode `63` (R330). -/
def execNopUnk63 (s : State) : Result := runPlain 0x63#8 noEffect s

/-- NOP_UNK $67, opcode `67` (R330). -/
def execNopUnk67 (s : State) : Result := runPlain 0x67#8 noEffect s

/-- NOP_UNK $6B, opcode `6B` (R330). -/
def execNopUnk6B (s : State) : Result := runPlain 0x6B#8 noEffect s

/-- NOP_UNK $6F, opcode `6F` (R330). -/
def execNopUnk6F (s : State) : Result := runPlain 0x6F#8 noEffect s

/-- NOP_UNK $73, opcode `73` (R330). -/
def execNopUnk73 (s : State) : Result := runPlain 0x73#8 noEffect s

/-- NOP_UNK $77, opcode `77` (R330). -/
def execNopUnk77 (s : State) : Result := runPlain 0x77#8 noEffect s

/-- NOP_UNK $7B, opcode `7B` (R330). -/
def execNopUnk7B (s : State) : Result := runPlain 0x7B#8 noEffect s

/-- NOP_UNK $7F, opcode `7F` (R330). -/
def execNopUnk7F (s : State) : Result := runPlain 0x7F#8 noEffect s

/-- NOP_UNK $82, opcode `82` (R330). -/
def execNopUnk82 (s : State) : Result := runPlain 0x82#8 noEffect s

/-- NOP_UNK $83, opcode `83` (R330). -/
def execNopUnk83 (s : State) : Result := runPlain 0x83#8 noEffect s

/-- NOP_UNK $87, opcode `87` (R330). -/
def execNopUnk87 (s : State) : Result := runPlain 0x87#8 noEffect s

/-- NOP_UNK $8B, opcode `8B` (R330). -/
def execNopUnk8B (s : State) : Result := runPlain 0x8B#8 noEffect s

/-- NOP_UNK $8F, opcode `8F` (R330). -/
def execNopUnk8F (s : State) : Result := runPlain 0x8F#8 noEffect s

/-- NOP_UNK $93, opcode `93` (R330). -/
def execNopUnk93 (s : State) : Result := runPlain 0x93#8 noEffect s

/-- NOP_UNK $97, opcode `97` (R330). -/
def execNopUnk97 (s : State) : Result := runPlain 0x97#8 noEffect s

/-- NOP_UNK $9B, opcode `9B` (R330). -/
def execNopUnk9B (s : State) : Result := runPlain 0x9B#8 noEffect s

/-- NOP_UNK $9F, opcode `9F` (R330). -/
def execNopUnk9F (s : State) : Result := runPlain 0x9F#8 noEffect s

/-- NOP_UNK $A3, opcode `A3` (R330). -/
def execNopUnkA3 (s : State) : Result := runPlain 0xA3#8 noEffect s

/-- NOP_UNK $A7, opcode `A7` (R330). -/
def execNopUnkA7 (s : State) : Result := runPlain 0xA7#8 noEffect s

/-- NOP_UNK $AB, opcode `AB` (R330). -/
def execNopUnkAB (s : State) : Result := runPlain 0xAB#8 noEffect s

/-- NOP_UNK $AF, opcode `AF` (R330). -/
def execNopUnkAF (s : State) : Result := runPlain 0xAF#8 noEffect s

/-- NOP_UNK $B3, opcode `B3` (R330). -/
def execNopUnkB3 (s : State) : Result := runPlain 0xB3#8 noEffect s

/-- NOP_UNK $B7, opcode `B7` (R330). -/
def execNopUnkB7 (s : State) : Result := runPlain 0xB7#8 noEffect s

/-- NOP_UNK $BB, opcode `BB` (R330). -/
def execNopUnkBB (s : State) : Result := runPlain 0xBB#8 noEffect s

/-- NOP_UNK $BF, opcode `BF` (R330). -/
def execNopUnkBF (s : State) : Result := runPlain 0xBF#8 noEffect s

/-- NOP_UNK $C2, opcode `C2` (R330). -/
def execNopUnkC2 (s : State) : Result := runPlain 0xC2#8 noEffect s

/-- NOP_UNK $C3, opcode `C3` (R330). -/
def execNopUnkC3 (s : State) : Result := runPlain 0xC3#8 noEffect s

/-- NOP_UNK $C7, opcode `C7` (R330). -/
def execNopUnkC7 (s : State) : Result := runPlain 0xC7#8 noEffect s

/-- NOP_UNK $CB, opcode `CB` (R330). -/
def execNopUnkCB (s : State) : Result := runPlain 0xCB#8 noEffect s

/-- NOP_UNK $CF, opcode `CF` (R330). -/
def execNopUnkCF (s : State) : Result := runPlain 0xCF#8 noEffect s

/-- NOP_UNK $D3, opcode `D3` (R330). -/
def execNopUnkD3 (s : State) : Result := runPlain 0xD3#8 noEffect s

/-- NOP_UNK $D4, opcode `D4` (R330). -/
def execNopUnkD4 (s : State) : Result := runPlain 0xD4#8 noEffect s

/-- NOP_UNK $D7, opcode `D7` (R330). -/
def execNopUnkD7 (s : State) : Result := runPlain 0xD7#8 noEffect s

/-- NOP_UNK $DB, opcode `DB` (R330). -/
def execNopUnkDB (s : State) : Result := runPlain 0xDB#8 noEffect s

/-- NOP_UNK $DC, opcode `DC` (R330). -/
def execNopUnkDC (s : State) : Result := runPlain 0xDC#8 noEffect s

/-- NOP_UNK $DF, opcode `DF` (R330). -/
def execNopUnkDF (s : State) : Result := runPlain 0xDF#8 noEffect s

/-- NOP_UNK $E2, opcode `E2` (R330). -/
def execNopUnkE2 (s : State) : Result := runPlain 0xE2#8 noEffect s

/-- NOP_UNK $E3, opcode `E3` (R330). -/
def execNopUnkE3 (s : State) : Result := runPlain 0xE3#8 noEffect s

/-- NOP_UNK $E7, opcode `E7` (R330). -/
def execNopUnkE7 (s : State) : Result := runPlain 0xE7#8 noEffect s

/-- NOP_UNK $EB, opcode `EB` (R330). -/
def execNopUnkEB (s : State) : Result := runPlain 0xEB#8 noEffect s

/-- NOP_UNK $EF, opcode `EF` (R330). -/
def execNopUnkEF (s : State) : Result := runPlain 0xEF#8 noEffect s

/-- NOP_UNK $F3, opcode `F3` (R330). -/
def execNopUnkF3 (s : State) : Result := runPlain 0xF3#8 noEffect s

/-- NOP_UNK $F4, opcode `F4` (R330). -/
def execNopUnkF4 (s : State) : Result := runPlain 0xF4#8 noEffect s

/-- NOP_UNK $F7, opcode `F7` (R330). -/
def execNopUnkF7 (s : State) : Result := runPlain 0xF7#8 noEffect s

/-- NOP_UNK $FB, opcode `FB` (R330). -/
def execNopUnkFB (s : State) : Result := runPlain 0xFB#8 noEffect s

/-- NOP_UNK $FC, opcode `FC` (R330). -/
def execNopUnkFC (s : State) : Result := runPlain 0xFC#8 noEffect s

/-- NOP_UNK $FF, opcode `FF` (R330). -/
def execNopUnkFF (s : State) : Result := runPlain 0xFF#8 noEffect s

end Sys2Proof.Machine
end

