-- ==== Sys2Proof/Machine/Dispatch.lean ====
section
/-! DEFINITION. The dispatch of every instruction to its meaning: one arm for each constructor, in the order
of the opcode table (`30_encoding.md` R150, R151). -/

namespace Sys2Proof.Machine

def exec (i : Instr) (s : State) : Host.Outcome State Fault Refusal :=
  match i with
  | .brk => Sys2Proof.Machine.execBrk s
  | .oraIndX a => Sys2Proof.Machine.execOraIndX a s
  | .nopUnk02 => Sys2Proof.Machine.execNopUnk02 s
  | .nopUnk03 => Sys2Proof.Machine.execNopUnk03 s
  | .tsbZp a => Sys2Proof.Machine.execTsbZp a s
  | .oraZp a => Sys2Proof.Machine.execOraZp a s
  | .aslZp a => Sys2Proof.Machine.execAslZp a s
  | .nopUnk07 => Sys2Proof.Machine.execNopUnk07 s
  | .php => Sys2Proof.Machine.execPhp s
  | .oraImm v => Sys2Proof.Machine.execOraImm v s
  | .aslA => Sys2Proof.Machine.execAslA s
  | .nopUnk0B => Sys2Proof.Machine.execNopUnk0B s
  | .tsbAbs a => Sys2Proof.Machine.execTsbAbs a s
  | .oraAbs a => Sys2Proof.Machine.execOraAbs a s
  | .aslAbs a => Sys2Proof.Machine.execAslAbs a s
  | .nopUnk0F => Sys2Proof.Machine.execNopUnk0F s
  | .bpl d => Sys2Proof.Machine.execBpl d s
  | .oraIndY a => Sys2Proof.Machine.execOraIndY a s
  | .oraZpInd a => Sys2Proof.Machine.execOraZpInd a s
  | .nopUnk13 => Sys2Proof.Machine.execNopUnk13 s
  | .trbZp a => Sys2Proof.Machine.execTrbZp a s
  | .oraZpX a => Sys2Proof.Machine.execOraZpX a s
  | .aslZpX a => Sys2Proof.Machine.execAslZpX a s
  | .nopUnk17 => Sys2Proof.Machine.execNopUnk17 s
  | .clc => Sys2Proof.Machine.execClc s
  | .oraAbsY a => Sys2Proof.Machine.execOraAbsY a s
  | .incA => Sys2Proof.Machine.execIncA s
  | .nopUnk1B => Sys2Proof.Machine.execNopUnk1B s
  | .trbAbs a => Sys2Proof.Machine.execTrbAbs a s
  | .oraAbsX a => Sys2Proof.Machine.execOraAbsX a s
  | .aslAbsX a => Sys2Proof.Machine.execAslAbsX a s
  | .nopUnk1F => Sys2Proof.Machine.execNopUnk1F s
  | .jsr a => Sys2Proof.Machine.execJsr a s
  | .andIndX a => Sys2Proof.Machine.execAndIndX a s
  | .nopUnk22 => Sys2Proof.Machine.execNopUnk22 s
  | .nopUnk23 => Sys2Proof.Machine.execNopUnk23 s
  | .bitZp a => Sys2Proof.Machine.execBitZp a s
  | .andZp a => Sys2Proof.Machine.execAndZp a s
  | .rolZp a => Sys2Proof.Machine.execRolZp a s
  | .nopUnk27 => Sys2Proof.Machine.execNopUnk27 s
  | .plp => Sys2Proof.Machine.execPlp s
  | .andImm v => Sys2Proof.Machine.execAndImm v s
  | .rolA => Sys2Proof.Machine.execRolA s
  | .nopUnk2B => Sys2Proof.Machine.execNopUnk2B s
  | .bitAbs a => Sys2Proof.Machine.execBitAbs a s
  | .andAbs a => Sys2Proof.Machine.execAndAbs a s
  | .rolAbs a => Sys2Proof.Machine.execRolAbs a s
  | .nopUnk2F => Sys2Proof.Machine.execNopUnk2F s
  | .bmi d => Sys2Proof.Machine.execBmi d s
  | .andIndY a => Sys2Proof.Machine.execAndIndY a s
  | .andZpInd a => Sys2Proof.Machine.execAndZpInd a s
  | .nopUnk33 => Sys2Proof.Machine.execNopUnk33 s
  | .bitZpX a => Sys2Proof.Machine.execBitZpX a s
  | .andZpX a => Sys2Proof.Machine.execAndZpX a s
  | .rolZpX a => Sys2Proof.Machine.execRolZpX a s
  | .nopUnk37 => Sys2Proof.Machine.execNopUnk37 s
  | .sec => Sys2Proof.Machine.execSec s
  | .andAbsY a => Sys2Proof.Machine.execAndAbsY a s
  | .decA => Sys2Proof.Machine.execDecA s
  | .nopUnk3B => Sys2Proof.Machine.execNopUnk3B s
  | .bitAbsX a => Sys2Proof.Machine.execBitAbsX a s
  | .andAbsX a => Sys2Proof.Machine.execAndAbsX a s
  | .rolAbsX a => Sys2Proof.Machine.execRolAbsX a s
  | .nopUnk3F => Sys2Proof.Machine.execNopUnk3F s
  | .rti => Sys2Proof.Machine.execRti s
  | .eorIndX a => Sys2Proof.Machine.execEorIndX a s
  | .nopUnk42 => Sys2Proof.Machine.execNopUnk42 s
  | .nopUnk43 => Sys2Proof.Machine.execNopUnk43 s
  | .nopUnk44 => Sys2Proof.Machine.execNopUnk44 s
  | .eorZp a => Sys2Proof.Machine.execEorZp a s
  | .lsrZp a => Sys2Proof.Machine.execLsrZp a s
  | .nopUnk47 => Sys2Proof.Machine.execNopUnk47 s
  | .pha => Sys2Proof.Machine.execPha s
  | .eorImm v => Sys2Proof.Machine.execEorImm v s
  | .lsrA => Sys2Proof.Machine.execLsrA s
  | .nopUnk4B => Sys2Proof.Machine.execNopUnk4B s
  | .jmpAbs a => Sys2Proof.Machine.execJmpAbs a s
  | .eorAbs a => Sys2Proof.Machine.execEorAbs a s
  | .lsrAbs a => Sys2Proof.Machine.execLsrAbs a s
  | .nopUnk4F => Sys2Proof.Machine.execNopUnk4F s
  | .bvc d => Sys2Proof.Machine.execBvc d s
  | .eorIndY a => Sys2Proof.Machine.execEorIndY a s
  | .eorZpInd a => Sys2Proof.Machine.execEorZpInd a s
  | .nopUnk53 => Sys2Proof.Machine.execNopUnk53 s
  | .nopUnk54 => Sys2Proof.Machine.execNopUnk54 s
  | .eorZpX a => Sys2Proof.Machine.execEorZpX a s
  | .lsrZpX a => Sys2Proof.Machine.execLsrZpX a s
  | .nopUnk57 => Sys2Proof.Machine.execNopUnk57 s
  | .cli => Sys2Proof.Machine.execCli s
  | .eorAbsY a => Sys2Proof.Machine.execEorAbsY a s
  | .phy => Sys2Proof.Machine.execPhy s
  | .nopUnk5B => Sys2Proof.Machine.execNopUnk5B s
  | .nopUnk5C => Sys2Proof.Machine.execNopUnk5C s
  | .eorAbsX a => Sys2Proof.Machine.execEorAbsX a s
  | .lsrAbsX a => Sys2Proof.Machine.execLsrAbsX a s
  | .nopUnk5F => Sys2Proof.Machine.execNopUnk5F s
  | .rts => Sys2Proof.Machine.execRts s
  | .adcIndX a => Sys2Proof.Machine.execAdcIndX a s
  | .nopUnk62 => Sys2Proof.Machine.execNopUnk62 s
  | .nopUnk63 => Sys2Proof.Machine.execNopUnk63 s
  | .stzZp a => Sys2Proof.Machine.execStzZp a s
  | .adcZp a => Sys2Proof.Machine.execAdcZp a s
  | .rorZp a => Sys2Proof.Machine.execRorZp a s
  | .nopUnk67 => Sys2Proof.Machine.execNopUnk67 s
  | .pla => Sys2Proof.Machine.execPla s
  | .adcImm v => Sys2Proof.Machine.execAdcImm v s
  | .rorA => Sys2Proof.Machine.execRorA s
  | .nopUnk6B => Sys2Proof.Machine.execNopUnk6B s
  | .jmpInd a => Sys2Proof.Machine.execJmpInd a s
  | .adcAbs a => Sys2Proof.Machine.execAdcAbs a s
  | .rorAbs a => Sys2Proof.Machine.execRorAbs a s
  | .nopUnk6F => Sys2Proof.Machine.execNopUnk6F s
  | .bvs d => Sys2Proof.Machine.execBvs d s
  | .adcIndY a => Sys2Proof.Machine.execAdcIndY a s
  | .adcZpInd a => Sys2Proof.Machine.execAdcZpInd a s
  | .nopUnk73 => Sys2Proof.Machine.execNopUnk73 s
  | .stzZpX a => Sys2Proof.Machine.execStzZpX a s
  | .adcZpX a => Sys2Proof.Machine.execAdcZpX a s
  | .rorZpX a => Sys2Proof.Machine.execRorZpX a s
  | .nopUnk77 => Sys2Proof.Machine.execNopUnk77 s
  | .sei => Sys2Proof.Machine.execSei s
  | .adcAbsY a => Sys2Proof.Machine.execAdcAbsY a s
  | .ply => Sys2Proof.Machine.execPly s
  | .nopUnk7B => Sys2Proof.Machine.execNopUnk7B s
  | .jmpAbsIndX a => Sys2Proof.Machine.execJmpAbsIndX a s
  | .adcAbsX a => Sys2Proof.Machine.execAdcAbsX a s
  | .rorAbsX a => Sys2Proof.Machine.execRorAbsX a s
  | .nopUnk7F => Sys2Proof.Machine.execNopUnk7F s
  | .bra d => Sys2Proof.Machine.execBra d s
  | .staIndX a => Sys2Proof.Machine.execStaIndX a s
  | .nopUnk82 => Sys2Proof.Machine.execNopUnk82 s
  | .nopUnk83 => Sys2Proof.Machine.execNopUnk83 s
  | .styZp a => Sys2Proof.Machine.execStyZp a s
  | .staZp a => Sys2Proof.Machine.execStaZp a s
  | .stxZp a => Sys2Proof.Machine.execStxZp a s
  | .nopUnk87 => Sys2Proof.Machine.execNopUnk87 s
  | .dey => Sys2Proof.Machine.execDey s
  | .bitImm v => Sys2Proof.Machine.execBitImm v s
  | .txa => Sys2Proof.Machine.execTxa s
  | .nopUnk8B => Sys2Proof.Machine.execNopUnk8B s
  | .styAbs a => Sys2Proof.Machine.execStyAbs a s
  | .staAbs a => Sys2Proof.Machine.execStaAbs a s
  | .stxAbs a => Sys2Proof.Machine.execStxAbs a s
  | .nopUnk8F => Sys2Proof.Machine.execNopUnk8F s
  | .bcc d => Sys2Proof.Machine.execBcc d s
  | .staIndY a => Sys2Proof.Machine.execStaIndY a s
  | .staZpInd a => Sys2Proof.Machine.execStaZpInd a s
  | .nopUnk93 => Sys2Proof.Machine.execNopUnk93 s
  | .styZpX a => Sys2Proof.Machine.execStyZpX a s
  | .staZpX a => Sys2Proof.Machine.execStaZpX a s
  | .stxZpY a => Sys2Proof.Machine.execStxZpY a s
  | .nopUnk97 => Sys2Proof.Machine.execNopUnk97 s
  | .tya => Sys2Proof.Machine.execTya s
  | .staAbsY a => Sys2Proof.Machine.execStaAbsY a s
  | .txs => Sys2Proof.Machine.execTxs s
  | .nopUnk9B => Sys2Proof.Machine.execNopUnk9B s
  | .stzAbs a => Sys2Proof.Machine.execStzAbs a s
  | .staAbsX a => Sys2Proof.Machine.execStaAbsX a s
  | .stzAbsX a => Sys2Proof.Machine.execStzAbsX a s
  | .nopUnk9F => Sys2Proof.Machine.execNopUnk9F s
  | .ldyImm v => Sys2Proof.Machine.execLdyImm v s
  | .ldaIndX a => Sys2Proof.Machine.execLdaIndX a s
  | .ldxImm v => Sys2Proof.Machine.execLdxImm v s
  | .nopUnkA3 => Sys2Proof.Machine.execNopUnkA3 s
  | .ldyZp a => Sys2Proof.Machine.execLdyZp a s
  | .ldaZp a => Sys2Proof.Machine.execLdaZp a s
  | .ldxZp a => Sys2Proof.Machine.execLdxZp a s
  | .nopUnkA7 => Sys2Proof.Machine.execNopUnkA7 s
  | .tay => Sys2Proof.Machine.execTay s
  | .ldaImm v => Sys2Proof.Machine.execLdaImm v s
  | .tax => Sys2Proof.Machine.execTax s
  | .nopUnkAB => Sys2Proof.Machine.execNopUnkAB s
  | .ldyAbs a => Sys2Proof.Machine.execLdyAbs a s
  | .ldaAbs a => Sys2Proof.Machine.execLdaAbs a s
  | .ldxAbs a => Sys2Proof.Machine.execLdxAbs a s
  | .nopUnkAF => Sys2Proof.Machine.execNopUnkAF s
  | .bcs d => Sys2Proof.Machine.execBcs d s
  | .ldaIndY a => Sys2Proof.Machine.execLdaIndY a s
  | .ldaZpInd a => Sys2Proof.Machine.execLdaZpInd a s
  | .nopUnkB3 => Sys2Proof.Machine.execNopUnkB3 s
  | .ldyZpX a => Sys2Proof.Machine.execLdyZpX a s
  | .ldaZpX a => Sys2Proof.Machine.execLdaZpX a s
  | .ldxZpY a => Sys2Proof.Machine.execLdxZpY a s
  | .nopUnkB7 => Sys2Proof.Machine.execNopUnkB7 s
  | .clv => Sys2Proof.Machine.execClv s
  | .ldaAbsY a => Sys2Proof.Machine.execLdaAbsY a s
  | .tsx => Sys2Proof.Machine.execTsx s
  | .nopUnkBB => Sys2Proof.Machine.execNopUnkBB s
  | .ldyAbsX a => Sys2Proof.Machine.execLdyAbsX a s
  | .ldaAbsX a => Sys2Proof.Machine.execLdaAbsX a s
  | .ldxAbsY a => Sys2Proof.Machine.execLdxAbsY a s
  | .nopUnkBF => Sys2Proof.Machine.execNopUnkBF s
  | .cpyImm v => Sys2Proof.Machine.execCpyImm v s
  | .cmpIndX a => Sys2Proof.Machine.execCmpIndX a s
  | .nopUnkC2 => Sys2Proof.Machine.execNopUnkC2 s
  | .nopUnkC3 => Sys2Proof.Machine.execNopUnkC3 s
  | .cpyZp a => Sys2Proof.Machine.execCpyZp a s
  | .cmpZp a => Sys2Proof.Machine.execCmpZp a s
  | .decZp a => Sys2Proof.Machine.execDecZp a s
  | .nopUnkC7 => Sys2Proof.Machine.execNopUnkC7 s
  | .iny => Sys2Proof.Machine.execIny s
  | .cmpImm v => Sys2Proof.Machine.execCmpImm v s
  | .dex => Sys2Proof.Machine.execDex s
  | .nopUnkCB => Sys2Proof.Machine.execNopUnkCB s
  | .cpyAbs a => Sys2Proof.Machine.execCpyAbs a s
  | .cmpAbs a => Sys2Proof.Machine.execCmpAbs a s
  | .decAbs a => Sys2Proof.Machine.execDecAbs a s
  | .nopUnkCF => Sys2Proof.Machine.execNopUnkCF s
  | .bne d => Sys2Proof.Machine.execBne d s
  | .cmpIndY a => Sys2Proof.Machine.execCmpIndY a s
  | .cmpZpInd a => Sys2Proof.Machine.execCmpZpInd a s
  | .nopUnkD3 => Sys2Proof.Machine.execNopUnkD3 s
  | .nopUnkD4 => Sys2Proof.Machine.execNopUnkD4 s
  | .cmpZpX a => Sys2Proof.Machine.execCmpZpX a s
  | .decZpX a => Sys2Proof.Machine.execDecZpX a s
  | .nopUnkD7 => Sys2Proof.Machine.execNopUnkD7 s
  | .cld => Sys2Proof.Machine.execCld s
  | .cmpAbsY a => Sys2Proof.Machine.execCmpAbsY a s
  | .phx => Sys2Proof.Machine.execPhx s
  | .nopUnkDB => Sys2Proof.Machine.execNopUnkDB s
  | .nopUnkDC => Sys2Proof.Machine.execNopUnkDC s
  | .cmpAbsX a => Sys2Proof.Machine.execCmpAbsX a s
  | .decAbsX a => Sys2Proof.Machine.execDecAbsX a s
  | .nopUnkDF => Sys2Proof.Machine.execNopUnkDF s
  | .cpxImm v => Sys2Proof.Machine.execCpxImm v s
  | .sbcIndX a => Sys2Proof.Machine.execSbcIndX a s
  | .nopUnkE2 => Sys2Proof.Machine.execNopUnkE2 s
  | .nopUnkE3 => Sys2Proof.Machine.execNopUnkE3 s
  | .cpxZp a => Sys2Proof.Machine.execCpxZp a s
  | .sbcZp a => Sys2Proof.Machine.execSbcZp a s
  | .incZp a => Sys2Proof.Machine.execIncZp a s
  | .nopUnkE7 => Sys2Proof.Machine.execNopUnkE7 s
  | .inx => Sys2Proof.Machine.execInx s
  | .sbcImm v => Sys2Proof.Machine.execSbcImm v s
  | .nop => Sys2Proof.Machine.execNop s
  | .nopUnkEB => Sys2Proof.Machine.execNopUnkEB s
  | .cpxAbs a => Sys2Proof.Machine.execCpxAbs a s
  | .sbcAbs a => Sys2Proof.Machine.execSbcAbs a s
  | .incAbs a => Sys2Proof.Machine.execIncAbs a s
  | .nopUnkEF => Sys2Proof.Machine.execNopUnkEF s
  | .beq d => Sys2Proof.Machine.execBeq d s
  | .sbcIndY a => Sys2Proof.Machine.execSbcIndY a s
  | .sbcZpInd a => Sys2Proof.Machine.execSbcZpInd a s
  | .nopUnkF3 => Sys2Proof.Machine.execNopUnkF3 s
  | .nopUnkF4 => Sys2Proof.Machine.execNopUnkF4 s
  | .sbcZpX a => Sys2Proof.Machine.execSbcZpX a s
  | .incZpX a => Sys2Proof.Machine.execIncZpX a s
  | .nopUnkF7 => Sys2Proof.Machine.execNopUnkF7 s
  | .sed => Sys2Proof.Machine.execSed s
  | .sbcAbsY a => Sys2Proof.Machine.execSbcAbsY a s
  | .plx => Sys2Proof.Machine.execPlx s
  | .nopUnkFB => Sys2Proof.Machine.execNopUnkFB s
  | .nopUnkFC => Sys2Proof.Machine.execNopUnkFC s
  | .sbcAbsX a => Sys2Proof.Machine.execSbcAbsX a s
  | .incAbsX a => Sys2Proof.Machine.execIncAbsX a s
  | .nopUnkFF => Sys2Proof.Machine.execNopUnkFF s

end Sys2Proof.Machine
end

