-- ==== Sys2Proof/Decode.lean ====
section
/-!
DEFINITION. The decoder, written as the 16 × 16 opcode map of `30_encoding.md` R150 (row = high
nibble, column = low nibble), and after it the encoder. The decoder is total: all 256 opcode values
are defined (R131, R150, R153); only a byte list that ends too early is rejected, by name.
-/

namespace Sys2Proof

/-- Why a list of bytes is not an instruction: only because it ends too early (R131: "The decoder
cannot fail"). -/
inductive DecodeError where
  /-- There is no opcode byte. -/
  | noOpcode
  /-- An operand byte of the opcode's mode (R130) is missing. -/
  | missingOperand
deriving DecidableEq, Repr

/-- A cell of the opcode map: what an opcode makes of the two bytes that follow it. -/
abbrev Cell := Byte → Byte → Instr

/-- A cell of format F1: no operand bytes (R130). -/
def cell1 (i : Instr) : Cell := fun _ _ => i

/-- A cell of format F2: byte 1 is the operand (R130). -/
def cell2 (f : Byte → Instr) : Cell := fun b1 _ => f b1

/-- A cell of format F3: bytes 1 and 2 are a 16-bit operand, low byte first (R130, R93). -/
def cell3 (f : Word → Instr) : Cell := fun b1 b2 => f (word b2 b1)

/-- Row `0x` of R150. -/
def opcodeRow0 : List Cell :=
  [cell1 .brk, cell2 .oraIndX, cell1 .nopUnk02, cell1 .nopUnk03,
   cell2 .tsbZp, cell2 .oraZp, cell2 .aslZp, cell1 .nopUnk07,
   cell1 .php, cell2 .oraImm, cell1 .aslA, cell1 .nopUnk0B,
   cell3 .tsbAbs, cell3 .oraAbs, cell3 .aslAbs, cell1 .nopUnk0F]

/-- Row `1x` of R150. -/
def opcodeRow1 : List Cell :=
  [cell2 .bpl, cell2 .oraIndY, cell2 .oraZpInd, cell1 .nopUnk13,
   cell2 .trbZp, cell2 .oraZpX, cell2 .aslZpX, cell1 .nopUnk17,
   cell1 .clc, cell3 .oraAbsY, cell1 .incA, cell1 .nopUnk1B,
   cell3 .trbAbs, cell3 .oraAbsX, cell3 .aslAbsX, cell1 .nopUnk1F]

/-- Row `2x` of R150. -/
def opcodeRow2 : List Cell :=
  [cell3 .jsr, cell2 .andIndX, cell1 .nopUnk22, cell1 .nopUnk23,
   cell2 .bitZp, cell2 .andZp, cell2 .rolZp, cell1 .nopUnk27,
   cell1 .plp, cell2 .andImm, cell1 .rolA, cell1 .nopUnk2B,
   cell3 .bitAbs, cell3 .andAbs, cell3 .rolAbs, cell1 .nopUnk2F]

/-- Row `3x` of R150. -/
def opcodeRow3 : List Cell :=
  [cell2 .bmi, cell2 .andIndY, cell2 .andZpInd, cell1 .nopUnk33,
   cell2 .bitZpX, cell2 .andZpX, cell2 .rolZpX, cell1 .nopUnk37,
   cell1 .sec, cell3 .andAbsY, cell1 .decA, cell1 .nopUnk3B,
   cell3 .bitAbsX, cell3 .andAbsX, cell3 .rolAbsX, cell1 .nopUnk3F]

/-- Row `4x` of R150. -/
def opcodeRow4 : List Cell :=
  [cell1 .rti, cell2 .eorIndX, cell1 .nopUnk42, cell1 .nopUnk43,
   cell1 .nopUnk44, cell2 .eorZp, cell2 .lsrZp, cell1 .nopUnk47,
   cell1 .pha, cell2 .eorImm, cell1 .lsrA, cell1 .nopUnk4B,
   cell3 .jmpAbs, cell3 .eorAbs, cell3 .lsrAbs, cell1 .nopUnk4F]

/-- Row `5x` of R150. -/
def opcodeRow5 : List Cell :=
  [cell2 .bvc, cell2 .eorIndY, cell2 .eorZpInd, cell1 .nopUnk53,
   cell1 .nopUnk54, cell2 .eorZpX, cell2 .lsrZpX, cell1 .nopUnk57,
   cell1 .cli, cell3 .eorAbsY, cell1 .phy, cell1 .nopUnk5B,
   cell1 .nopUnk5C, cell3 .eorAbsX, cell3 .lsrAbsX, cell1 .nopUnk5F]

/-- Row `6x` of R150. -/
def opcodeRow6 : List Cell :=
  [cell1 .rts, cell2 .adcIndX, cell1 .nopUnk62, cell1 .nopUnk63,
   cell2 .stzZp, cell2 .adcZp, cell2 .rorZp, cell1 .nopUnk67,
   cell1 .pla, cell2 .adcImm, cell1 .rorA, cell1 .nopUnk6B,
   cell3 .jmpInd, cell3 .adcAbs, cell3 .rorAbs, cell1 .nopUnk6F]

/-- Row `7x` of R150. -/
def opcodeRow7 : List Cell :=
  [cell2 .bvs, cell2 .adcIndY, cell2 .adcZpInd, cell1 .nopUnk73,
   cell2 .stzZpX, cell2 .adcZpX, cell2 .rorZpX, cell1 .nopUnk77,
   cell1 .sei, cell3 .adcAbsY, cell1 .ply, cell1 .nopUnk7B,
   cell3 .jmpAbsIndX, cell3 .adcAbsX, cell3 .rorAbsX, cell1 .nopUnk7F]

/-- Row `8x` of R150. -/
def opcodeRow8 : List Cell :=
  [cell2 .bra, cell2 .staIndX, cell1 .nopUnk82, cell1 .nopUnk83,
   cell2 .styZp, cell2 .staZp, cell2 .stxZp, cell1 .nopUnk87,
   cell1 .dey, cell2 .bitImm, cell1 .txa, cell1 .nopUnk8B,
   cell3 .styAbs, cell3 .staAbs, cell3 .stxAbs, cell1 .nopUnk8F]

/-- Row `9x` of R150. -/
def opcodeRow9 : List Cell :=
  [cell2 .bcc, cell2 .staIndY, cell2 .staZpInd, cell1 .nopUnk93,
   cell2 .styZpX, cell2 .staZpX, cell2 .stxZpY, cell1 .nopUnk97,
   cell1 .tya, cell3 .staAbsY, cell1 .txs, cell1 .nopUnk9B,
   cell3 .stzAbs, cell3 .staAbsX, cell3 .stzAbsX, cell1 .nopUnk9F]

/-- Row `Ax` of R150. -/
def opcodeRowA : List Cell :=
  [cell2 .ldyImm, cell2 .ldaIndX, cell2 .ldxImm, cell1 .nopUnkA3,
   cell2 .ldyZp, cell2 .ldaZp, cell2 .ldxZp, cell1 .nopUnkA7,
   cell1 .tay, cell2 .ldaImm, cell1 .tax, cell1 .nopUnkAB,
   cell3 .ldyAbs, cell3 .ldaAbs, cell3 .ldxAbs, cell1 .nopUnkAF]

/-- Row `Bx` of R150. -/
def opcodeRowB : List Cell :=
  [cell2 .bcs, cell2 .ldaIndY, cell2 .ldaZpInd, cell1 .nopUnkB3,
   cell2 .ldyZpX, cell2 .ldaZpX, cell2 .ldxZpY, cell1 .nopUnkB7,
   cell1 .clv, cell3 .ldaAbsY, cell1 .tsx, cell1 .nopUnkBB,
   cell3 .ldyAbsX, cell3 .ldaAbsX, cell3 .ldxAbsY, cell1 .nopUnkBF]

/-- Row `Cx` of R150. -/
def opcodeRowC : List Cell :=
  [cell2 .cpyImm, cell2 .cmpIndX, cell1 .nopUnkC2, cell1 .nopUnkC3,
   cell2 .cpyZp, cell2 .cmpZp, cell2 .decZp, cell1 .nopUnkC7,
   cell1 .iny, cell2 .cmpImm, cell1 .dex, cell1 .nopUnkCB,
   cell3 .cpyAbs, cell3 .cmpAbs, cell3 .decAbs, cell1 .nopUnkCF]

/-- Row `Dx` of R150. -/
def opcodeRowD : List Cell :=
  [cell2 .bne, cell2 .cmpIndY, cell2 .cmpZpInd, cell1 .nopUnkD3,
   cell1 .nopUnkD4, cell2 .cmpZpX, cell2 .decZpX, cell1 .nopUnkD7,
   cell1 .cld, cell3 .cmpAbsY, cell1 .phx, cell1 .nopUnkDB,
   cell1 .nopUnkDC, cell3 .cmpAbsX, cell3 .decAbsX, cell1 .nopUnkDF]

/-- Row `Ex` of R150. -/
def opcodeRowE : List Cell :=
  [cell2 .cpxImm, cell2 .sbcIndX, cell1 .nopUnkE2, cell1 .nopUnkE3,
   cell2 .cpxZp, cell2 .sbcZp, cell2 .incZp, cell1 .nopUnkE7,
   cell1 .inx, cell2 .sbcImm, cell1 .nop, cell1 .nopUnkEB,
   cell3 .cpxAbs, cell3 .sbcAbs, cell3 .incAbs, cell1 .nopUnkEF]

/-- Row `Fx` of R150. -/
def opcodeRowF : List Cell :=
  [cell2 .beq, cell2 .sbcIndY, cell2 .sbcZpInd, cell1 .nopUnkF3,
   cell1 .nopUnkF4, cell2 .sbcZpX, cell2 .incZpX, cell1 .nopUnkF7,
   cell1 .sed, cell3 .sbcAbsY, cell1 .plx, cell1 .nopUnkFB,
   cell1 .nopUnkFC, cell3 .sbcAbsX, cell3 .incAbsX, cell1 .nopUnkFF]

/-- The opcode map of R150, indexed by the high nibble. -/
def opcodeMap : List (List Cell) :=
  [opcodeRow0, opcodeRow1, opcodeRow2, opcodeRow3, opcodeRow4, opcodeRow5, opcodeRow6, opcodeRow7,
   opcodeRow8, opcodeRow9, opcodeRowA, opcodeRowB, opcodeRowC, opcodeRowD, opcodeRowE, opcodeRowF]

/-- The instruction of an opcode byte and the two bytes after it, of which it uses as many as its mode
fetches (R130, R150). Both look-ups are in range for every opcode byte. -/
def decodeOp (op b1 b2 : Byte) : Instr :=
  ((opcodeMap.getD (op.toNat / 16) []).getD (op.toNat % 16) (cell1 .nop)) b1 b2

/-- The bytes of an instruction: the opcode, then the operand, low byte first (R130, R151). -/
def Instr.encode : Instr → List Byte
  | .brk => [0x00#8]
  | .oraIndX a => [0x01#8, a]
  | .nopUnk02 => [0x02#8]
  | .nopUnk03 => [0x03#8]
  | .tsbZp a => [0x04#8, a]
  | .oraZp a => [0x05#8, a]
  | .aslZp a => [0x06#8, a]
  | .nopUnk07 => [0x07#8]
  | .php => [0x08#8]
  | .oraImm v => [0x09#8, v]
  | .aslA => [0x0A#8]
  | .nopUnk0B => [0x0B#8]
  | .tsbAbs a => [0x0C#8, lo a, hi a]
  | .oraAbs a => [0x0D#8, lo a, hi a]
  | .aslAbs a => [0x0E#8, lo a, hi a]
  | .nopUnk0F => [0x0F#8]
  | .bpl d => [0x10#8, d]
  | .oraIndY a => [0x11#8, a]
  | .oraZpInd a => [0x12#8, a]
  | .nopUnk13 => [0x13#8]
  | .trbZp a => [0x14#8, a]
  | .oraZpX a => [0x15#8, a]
  | .aslZpX a => [0x16#8, a]
  | .nopUnk17 => [0x17#8]
  | .clc => [0x18#8]
  | .oraAbsY a => [0x19#8, lo a, hi a]
  | .incA => [0x1A#8]
  | .nopUnk1B => [0x1B#8]
  | .trbAbs a => [0x1C#8, lo a, hi a]
  | .oraAbsX a => [0x1D#8, lo a, hi a]
  | .aslAbsX a => [0x1E#8, lo a, hi a]
  | .nopUnk1F => [0x1F#8]
  | .jsr a => [0x20#8, lo a, hi a]
  | .andIndX a => [0x21#8, a]
  | .nopUnk22 => [0x22#8]
  | .nopUnk23 => [0x23#8]
  | .bitZp a => [0x24#8, a]
  | .andZp a => [0x25#8, a]
  | .rolZp a => [0x26#8, a]
  | .nopUnk27 => [0x27#8]
  | .plp => [0x28#8]
  | .andImm v => [0x29#8, v]
  | .rolA => [0x2A#8]
  | .nopUnk2B => [0x2B#8]
  | .bitAbs a => [0x2C#8, lo a, hi a]
  | .andAbs a => [0x2D#8, lo a, hi a]
  | .rolAbs a => [0x2E#8, lo a, hi a]
  | .nopUnk2F => [0x2F#8]
  | .bmi d => [0x30#8, d]
  | .andIndY a => [0x31#8, a]
  | .andZpInd a => [0x32#8, a]
  | .nopUnk33 => [0x33#8]
  | .bitZpX a => [0x34#8, a]
  | .andZpX a => [0x35#8, a]
  | .rolZpX a => [0x36#8, a]
  | .nopUnk37 => [0x37#8]
  | .sec => [0x38#8]
  | .andAbsY a => [0x39#8, lo a, hi a]
  | .decA => [0x3A#8]
  | .nopUnk3B => [0x3B#8]
  | .bitAbsX a => [0x3C#8, lo a, hi a]
  | .andAbsX a => [0x3D#8, lo a, hi a]
  | .rolAbsX a => [0x3E#8, lo a, hi a]
  | .nopUnk3F => [0x3F#8]
  | .rti => [0x40#8]
  | .eorIndX a => [0x41#8, a]
  | .nopUnk42 => [0x42#8]
  | .nopUnk43 => [0x43#8]
  | .nopUnk44 => [0x44#8]
  | .eorZp a => [0x45#8, a]
  | .lsrZp a => [0x46#8, a]
  | .nopUnk47 => [0x47#8]
  | .pha => [0x48#8]
  | .eorImm v => [0x49#8, v]
  | .lsrA => [0x4A#8]
  | .nopUnk4B => [0x4B#8]
  | .jmpAbs a => [0x4C#8, lo a, hi a]
  | .eorAbs a => [0x4D#8, lo a, hi a]
  | .lsrAbs a => [0x4E#8, lo a, hi a]
  | .nopUnk4F => [0x4F#8]
  | .bvc d => [0x50#8, d]
  | .eorIndY a => [0x51#8, a]
  | .eorZpInd a => [0x52#8, a]
  | .nopUnk53 => [0x53#8]
  | .nopUnk54 => [0x54#8]
  | .eorZpX a => [0x55#8, a]
  | .lsrZpX a => [0x56#8, a]
  | .nopUnk57 => [0x57#8]
  | .cli => [0x58#8]
  | .eorAbsY a => [0x59#8, lo a, hi a]
  | .phy => [0x5A#8]
  | .nopUnk5B => [0x5B#8]
  | .nopUnk5C => [0x5C#8]
  | .eorAbsX a => [0x5D#8, lo a, hi a]
  | .lsrAbsX a => [0x5E#8, lo a, hi a]
  | .nopUnk5F => [0x5F#8]
  | .rts => [0x60#8]
  | .adcIndX a => [0x61#8, a]
  | .nopUnk62 => [0x62#8]
  | .nopUnk63 => [0x63#8]
  | .stzZp a => [0x64#8, a]
  | .adcZp a => [0x65#8, a]
  | .rorZp a => [0x66#8, a]
  | .nopUnk67 => [0x67#8]
  | .pla => [0x68#8]
  | .adcImm v => [0x69#8, v]
  | .rorA => [0x6A#8]
  | .nopUnk6B => [0x6B#8]
  | .jmpInd a => [0x6C#8, lo a, hi a]
  | .adcAbs a => [0x6D#8, lo a, hi a]
  | .rorAbs a => [0x6E#8, lo a, hi a]
  | .nopUnk6F => [0x6F#8]
  | .bvs d => [0x70#8, d]
  | .adcIndY a => [0x71#8, a]
  | .adcZpInd a => [0x72#8, a]
  | .nopUnk73 => [0x73#8]
  | .stzZpX a => [0x74#8, a]
  | .adcZpX a => [0x75#8, a]
  | .rorZpX a => [0x76#8, a]
  | .nopUnk77 => [0x77#8]
  | .sei => [0x78#8]
  | .adcAbsY a => [0x79#8, lo a, hi a]
  | .ply => [0x7A#8]
  | .nopUnk7B => [0x7B#8]
  | .jmpAbsIndX a => [0x7C#8, lo a, hi a]
  | .adcAbsX a => [0x7D#8, lo a, hi a]
  | .rorAbsX a => [0x7E#8, lo a, hi a]
  | .nopUnk7F => [0x7F#8]
  | .bra d => [0x80#8, d]
  | .staIndX a => [0x81#8, a]
  | .nopUnk82 => [0x82#8]
  | .nopUnk83 => [0x83#8]
  | .styZp a => [0x84#8, a]
  | .staZp a => [0x85#8, a]
  | .stxZp a => [0x86#8, a]
  | .nopUnk87 => [0x87#8]
  | .dey => [0x88#8]
  | .bitImm v => [0x89#8, v]
  | .txa => [0x8A#8]
  | .nopUnk8B => [0x8B#8]
  | .styAbs a => [0x8C#8, lo a, hi a]
  | .staAbs a => [0x8D#8, lo a, hi a]
  | .stxAbs a => [0x8E#8, lo a, hi a]
  | .nopUnk8F => [0x8F#8]
  | .bcc d => [0x90#8, d]
  | .staIndY a => [0x91#8, a]
  | .staZpInd a => [0x92#8, a]
  | .nopUnk93 => [0x93#8]
  | .styZpX a => [0x94#8, a]
  | .staZpX a => [0x95#8, a]
  | .stxZpY a => [0x96#8, a]
  | .nopUnk97 => [0x97#8]
  | .tya => [0x98#8]
  | .staAbsY a => [0x99#8, lo a, hi a]
  | .txs => [0x9A#8]
  | .nopUnk9B => [0x9B#8]
  | .stzAbs a => [0x9C#8, lo a, hi a]
  | .staAbsX a => [0x9D#8, lo a, hi a]
  | .stzAbsX a => [0x9E#8, lo a, hi a]
  | .nopUnk9F => [0x9F#8]
  | .ldyImm v => [0xA0#8, v]
  | .ldaIndX a => [0xA1#8, a]
  | .ldxImm v => [0xA2#8, v]
  | .nopUnkA3 => [0xA3#8]
  | .ldyZp a => [0xA4#8, a]
  | .ldaZp a => [0xA5#8, a]
  | .ldxZp a => [0xA6#8, a]
  | .nopUnkA7 => [0xA7#8]
  | .tay => [0xA8#8]
  | .ldaImm v => [0xA9#8, v]
  | .tax => [0xAA#8]
  | .nopUnkAB => [0xAB#8]
  | .ldyAbs a => [0xAC#8, lo a, hi a]
  | .ldaAbs a => [0xAD#8, lo a, hi a]
  | .ldxAbs a => [0xAE#8, lo a, hi a]
  | .nopUnkAF => [0xAF#8]
  | .bcs d => [0xB0#8, d]
  | .ldaIndY a => [0xB1#8, a]
  | .ldaZpInd a => [0xB2#8, a]
  | .nopUnkB3 => [0xB3#8]
  | .ldyZpX a => [0xB4#8, a]
  | .ldaZpX a => [0xB5#8, a]
  | .ldxZpY a => [0xB6#8, a]
  | .nopUnkB7 => [0xB7#8]
  | .clv => [0xB8#8]
  | .ldaAbsY a => [0xB9#8, lo a, hi a]
  | .tsx => [0xBA#8]
  | .nopUnkBB => [0xBB#8]
  | .ldyAbsX a => [0xBC#8, lo a, hi a]
  | .ldaAbsX a => [0xBD#8, lo a, hi a]
  | .ldxAbsY a => [0xBE#8, lo a, hi a]
  | .nopUnkBF => [0xBF#8]
  | .cpyImm v => [0xC0#8, v]
  | .cmpIndX a => [0xC1#8, a]
  | .nopUnkC2 => [0xC2#8]
  | .nopUnkC3 => [0xC3#8]
  | .cpyZp a => [0xC4#8, a]
  | .cmpZp a => [0xC5#8, a]
  | .decZp a => [0xC6#8, a]
  | .nopUnkC7 => [0xC7#8]
  | .iny => [0xC8#8]
  | .cmpImm v => [0xC9#8, v]
  | .dex => [0xCA#8]
  | .nopUnkCB => [0xCB#8]
  | .cpyAbs a => [0xCC#8, lo a, hi a]
  | .cmpAbs a => [0xCD#8, lo a, hi a]
  | .decAbs a => [0xCE#8, lo a, hi a]
  | .nopUnkCF => [0xCF#8]
  | .bne d => [0xD0#8, d]
  | .cmpIndY a => [0xD1#8, a]
  | .cmpZpInd a => [0xD2#8, a]
  | .nopUnkD3 => [0xD3#8]
  | .nopUnkD4 => [0xD4#8]
  | .cmpZpX a => [0xD5#8, a]
  | .decZpX a => [0xD6#8, a]
  | .nopUnkD7 => [0xD7#8]
  | .cld => [0xD8#8]
  | .cmpAbsY a => [0xD9#8, lo a, hi a]
  | .phx => [0xDA#8]
  | .nopUnkDB => [0xDB#8]
  | .nopUnkDC => [0xDC#8]
  | .cmpAbsX a => [0xDD#8, lo a, hi a]
  | .decAbsX a => [0xDE#8, lo a, hi a]
  | .nopUnkDF => [0xDF#8]
  | .cpxImm v => [0xE0#8, v]
  | .sbcIndX a => [0xE1#8, a]
  | .nopUnkE2 => [0xE2#8]
  | .nopUnkE3 => [0xE3#8]
  | .cpxZp a => [0xE4#8, a]
  | .sbcZp a => [0xE5#8, a]
  | .incZp a => [0xE6#8, a]
  | .nopUnkE7 => [0xE7#8]
  | .inx => [0xE8#8]
  | .sbcImm v => [0xE9#8, v]
  | .nop => [0xEA#8]
  | .nopUnkEB => [0xEB#8]
  | .cpxAbs a => [0xEC#8, lo a, hi a]
  | .sbcAbs a => [0xED#8, lo a, hi a]
  | .incAbs a => [0xEE#8, lo a, hi a]
  | .nopUnkEF => [0xEF#8]
  | .beq d => [0xF0#8, d]
  | .sbcIndY a => [0xF1#8, a]
  | .sbcZpInd a => [0xF2#8, a]
  | .nopUnkF3 => [0xF3#8]
  | .nopUnkF4 => [0xF4#8]
  | .sbcZpX a => [0xF5#8, a]
  | .incZpX a => [0xF6#8, a]
  | .nopUnkF7 => [0xF7#8]
  | .sed => [0xF8#8]
  | .sbcAbsY a => [0xF9#8, lo a, hi a]
  | .plx => [0xFA#8]
  | .nopUnkFB => [0xFB#8]
  | .nopUnkFC => [0xFC#8]
  | .sbcAbsX a => [0xFD#8, lo a, hi a]
  | .incAbsX a => [0xFE#8, lo a, hi a]
  | .nopUnkFF => [0xFF#8]

/-- The opcode byte of an instruction (R150). -/
def Instr.opcode (i : Instr) : Byte := i.encode.headD 0x00#8

/-- How many bytes an instruction has: 1, 2 or 3 (R130). -/
def Instr.length (i : Instr) : Nat := i.encode.length

/-- How many bytes follow an opcode byte: the opcode alone fixes the length (R130). -/
def operandCount (op : Byte) : Nat := (decodeOp op 0x00#8 0x00#8).length - 1

/-- The decoder on a list of bytes: the instruction and the bytes after it, or why there is none. -/
def decode : List Byte → Except DecodeError (Instr × List Byte)
  | [] => .error .noOpcode
  | op :: rest =>
    match operandCount op, rest with
    | 0, _ => .ok (decodeOp op 0x00#8 0x00#8, rest)
    | 1, b1 :: after => .ok (decodeOp op b1 0x00#8, after)
    | 2, b1 :: b2 :: after => .ok (decodeOp op b1 b2, after)
    | _, _ => .error .missingOperand

/-- The decoder under the parameter `ISA_TIER` (U2): with `base` the 27 opcodes of tier `cmos` "join
the undefined ones", so they are the one-byte, one-cycle no-operation of R330. -/
def decodeTiered (tier : IsaTier) (op b1 b2 : Byte) : Instr :=
  match tier with
  | .baseAndCmos => decodeOp op b1 b2
  | .base => if op ∈ cmosOpcodes then .nopUnk02 else decodeOp op b1 b2

/-- How many operand bytes are fetched after an opcode under `ISA_TIER` (R130, U2). -/
def operandCountTiered (tier : IsaTier) (op : Byte) : Nat :=
  match tier with
  | .baseAndCmos => operandCount op
  | .base => if op ∈ cmosOpcodes then 0 else operandCount op

/-- The three instruction bytes of a table word: byte `k` is bits `8k+7 .. 8k`, and bits from `nbits`
up are 0. -/
def tableBytes (nbits w : Nat) : Byte × Byte × Byte :=
  let v := w % 2 ^ nbits
  (BitVec.ofNat 8 v, BitVec.ofNat 8 (v / 256), BitVec.ofNat 8 (v / 65536))

/-- The instruction the decoder reads from an instruction whose bits are `w`, the opcode byte least
significant. -/
def decodeTableWord (nbits w : Nat) : Option Instr :=
  let b := tableBytes nbits w
  match decode [b.1, b.2.1, b.2.2] with
  | .ok r => some r.1
  | .error _ => none

end Sys2Proof
end

