-- ==== Sys2Proof/Machine/Fetch.lean ====
section
/-!
DEFINITION. Fetching one instruction (`30_encoding.md` R131): the opcode byte, then the operand bytes its
mode asks for, each an ordinary read at `PC` with the side effects of its target (`20_memory.md` R96).
Also placing an instruction where the next fetch reads it, for `State.withFetchWord`.
-/

namespace Sys2Proof.Machine

/-- Fetch and decode one instruction under `ISA_TIER` (R131, R130, U2); `PC` is left at the next one. -/
def fetchInstr (s : State) : Instr × State :=
  let tier := s.params.isaTier
  let o := fetch s
  match operandCountTiered tier o.1 with
  | 0 => (decodeTiered tier o.1 0x00#8 0x00#8, o.2)
  | 1 =>
    let b := fetch o.2
    (decodeTiered tier o.1 b.1 0x00#8, b.2)
  | _ =>
    let b := fetch o.2
    let c := fetch b.2
    (decodeTiered tier o.1 b.1 c.1, c.2)

/-- Place a byte in the plain store an address selects; an I/O address selects none. -/
def pokeByte (a : Word) (x : Byte) (s : State) : State :=
  match decodeAddr s.params.cartPresent a with
  | .ram c => { s with ram := Memory.write s.ram c.toNat x }
  | .rom c => { s with rom := Memory.write s.rom c.toNat x }
  | .cart c => { s with cart := Memory.write s.cart c.toNat x }
  | _ => s

/-- Whether an address selects a plain store. -/
def isPlain (cartPresent : Bool) (a : Word) : Bool :=
  match decodeAddr cartPresent a with
  | .ram _ => true
  | .rom _ => true
  | .cart _ => true
  | _ => false

/-- Where the next instruction is placed: at `PC`, or in RAM when `PC` runs through an I/O window. -/
def placeAt (s : State) : Word :=
  if isPlain s.params.cartPresent s.pc && isPlain s.params.cartPresent (s.pc + 1) &&
    isPlain s.params.cartPresent (s.pc + 2) then s.pc else 0x0200#16

/-- Place three instruction bytes where the very next step fetches them (log entry 3). -/
def placeBytes (b0 b1 b2 : Byte) (s : State) : State :=
  let a := placeAt s
  pokeByte (a + 2) b2 (pokeByte (a + 1) b1 (pokeByte a b0
    { s with pc := a, cyclesRemaining := 0, resetRequest := none }))

end Sys2Proof.Machine
end

