-- ==== Sys2Proof/Machine/CpuTick.lean ====
section
/-!
DEFINITION. The CPU tick (`20_memory.md` R111, R112) and `Step()`, the interface of the CPU alone (R114).
-/

namespace Sys2Proof.Machine

/-- Execute one whole instruction (R111, R131); then the pulses its register accesses emitted act (R112). -/
def executeInstruction (s : State) : Result :=
  match exec (fetchInstr s).1 (fetchInstr s).2 with
  | .next t => .next (deliverPosted t)
  | .fault f => .fault f
  | .refused r => .refused r

/-- The count of one CPU tick (R111, R26, R27). -/
def countCycle (s : State) : State :=
  { s with cyclesRemaining := s.cyclesRemaining - 1, cyclesTotal := s.cyclesTotal + 1 }

/-- `CpuTick()` (R111). -/
def cpuTick (s : State) : Result :=
  if s.cyclesRemaining = 0 then
    match executeInstruction s with
    | .next t => .next (countCycle t)
    | .fault f => .fault f
    | .refused r => .refused r
  else .next (countCycle s)

/-- `n` CPU ticks, stopping at a fault or refusal. -/
def cpuTicks : Nat → State → Result
  | 0, s => .next s
  | n + 1, s =>
    match cpuTick s with
    | .next t => cpuTicks n t
    | .fault f => .fault f
    | .refused r => .refused r

/-- `Step()` (R114): let the cycles that remain pass, execute one instruction, let its cycles pass; the
number of CPU ticks performed, and the machine after them. No device is ticked. -/
def cpuStep (s : State) : Host.Outcome (Nat × State) Fault Refusal :=
  match cpuTicks s.cyclesRemaining s with
  | .next t0 =>
    match cpuTick t0 with
    | .next t1 =>
      match cpuTicks t1.cyclesRemaining t1 with
      | .next t2 => .next (s.cyclesRemaining + 1 + t1.cyclesRemaining, t2)
      | .fault f => .fault f
      | .refused r => .refused r
    | .fault f => .fault f
    | .refused r => .refused r
  | .fault f => .fault f
  | .refused r => .refused r

end Sys2Proof.Machine
end

