-- ==== Sys2Proof/Machine/Render.lean ====
section
/-!
DEFINITION. The rasterizer of the video card (`46_vdp.md` R380 to R400): backgrounds, sprites, the blit
and one scanline. The pacing loop that calls it, and the delivery of its IRQ pulse, are in
`Machine/Devices.lean`.
-/

namespace Sys2Proof.Machine

/-- A palette index. -/
abbrev Colour := BitVec 4

/-- Rasterizer scratch: the line buffer of palette indices (R43). -/
abbrev LineBuf := List Colour

/-! ### Backgrounds (R383 to R387) -/

/-- The first `n` pixels of a pattern byte, bit 7 leftmost (R383, R385). -/
def patternPixels (pat : Byte) (fg bg : Colour) (n : Nat) : LineBuf :=
  (List.range n).map fun b => if pat.getLsbD (7 - b) then fg else bg

/-- The foreground colour of a colour byte (R383). -/
def colourFg (c : Byte) : Colour := c.extractLsb' 4 4

/-- The background colour of a colour byte (R383). -/
def colourBg (c : Byte) : Colour := c.extractLsb' 0 4

/-- Graphics I (R383). -/
def Vdp.graphics1Line (d : Vdp) (y : Nat) : LineBuf :=
  (List.range 32).flatMap fun col =>
    let name := (d.vramAt (d.regs.nameBase + (y >>> 3) * 32 + col)).toNat
    let pat := d.vramAt (d.regs.patternBase + name * 8 + (y &&& 7))
    let c := d.vramAt (d.regs.colorBase + (name >>> 3))
    patternPixels pat (colourFg c) (colourBg c) 8

/-- The page of a vertical third in Graphics II (R384). -/
def VdpRegs.page (r : VdpRegs) (y : Nat) : Nat := (((y >>> 3) >>> 3) &&& (r.r4 &&& 0x03#8).toNat) <<< 11

/-- The name mask of Graphics II (R384). -/
def VdpRegs.nameMask (r : VdpRegs) : Nat := ((((r.r3 &&& 0x7F#8).toNat <<< 3) ||| 0x07) &&& 0xFF)

/-- Graphics II (R384). -/
def Vdp.graphics2Line (d : Vdp) (y : Nat) : LineBuf :=
  (List.range 32).flatMap fun col =>
    let name := (d.vramAt (d.regs.nameBase + (y >>> 3) * 32 + col)).toNat
    let idx := name &&& d.regs.nameMask
    let pat := d.vramAt (d.regs.patternBase2 + d.regs.page y + idx * 8 + (y &&& 7))
    let c := d.vramAt (d.regs.colorBase2 + d.regs.page y + idx * 8 + (y &&& 7))
    patternPixels pat (colourFg c) (colourBg c) 8

/-- Text (R385). -/
def Vdp.textLine (d : Vdp) (y : Nat) : LineBuf :=
  let side := List.replicate 8 d.regs.backdrop
  let mid := (List.range 40).flatMap fun col =>
    let name := (d.vramAt (d.regs.nameBase + (y >>> 3) * 40 + col)).toNat
    let pat := d.vramAt (d.regs.patternBase + name * 8 + (y &&& 7))
    patternPixels pat d.regs.textColor d.regs.backdrop 6
  side ++ mid ++ side

/-- Multicolor (R386). -/
def Vdp.multicolorLine (d : Vdp) (y : Nat) : LineBuf :=
  (List.range 32).flatMap fun col =>
    let name := (d.vramAt (d.regs.nameBase + (y >>> 3) * 32 + col)).toNat
    let c := d.vramAt (d.regs.patternBase + name * 8 + ((y >>> 2) &&& 7))
    List.replicate 4 (colourFg c) ++ List.replicate 4 (colourBg c)

/-- The background of a line in a mode (R380, R383 to R386). -/
def Vdp.background (d : Vdp) (y : Nat) : LineBuf :=
  match d.regs.mode with
  | .graphics1 => d.graphics1Line y
  | .graphics2 => d.graphics2Line y
  | .text => d.textLine y
  | .multicolor => d.multicolorLine y
  | .unlisted => d.graphics1Line y

/-! ### Sprites (R390 to R399) -/

/-- The scratch of one scanline's sprite scan, and the status it writes (R43, R391). -/
structure SpriteScan where
  line : LineBuf
  mask : List Nat
  status : Byte
  count : Nat

/-- A byte of entry `s` of the sprite attribute table (R390). -/
def Vdp.spriteAttr (d : Vdp) (s k : Nat) : Byte := d.vramAt (d.regs.spriteAttrBase + 4 * s + k)

/-- `ypos`: raw + 1, where raw above `0xE0` wraps negative (R393). -/
def spriteY (raw : Byte) : Int := (if 0xE0#8 < raw then (raw.toNat : Int) - 256 else raw.toNat) + 1

/-- The pattern row of a sprite on scanline `y`, `(y - ypos) >> mag` as a floor (R391). -/
def Vdp.spriteRow (d : Vdp) (y s : Nat) : Int :=
  ((y : Int) - spriteY (d.spriteAttr s 0)) / (if d.regs.mag = 0 then 1 else 2)

/-- The sprite's pattern name, its low two bits masked for 16 × 16 (R394). -/
def Vdp.spriteName (d : Vdp) (s : Nat) : Nat :=
  let name := d.spriteAttr s 2
  (if d.regs.spriteSize = 16 then name &&& 0xFC#8 else name).toNat

/-- The sprite's colour (R390). -/
def Vdp.spriteColour (d : Vdp) (s : Nat) : Colour := (d.spriteAttr s 3).extractLsb' 0 4

/-- `xpos`: the early clock bit shifts by −32 (R397). -/
def Vdp.spriteX (d : Vdp) (s : Nat) : Int :=
  ((d.spriteAttr s 1).toNat : Int) - (if (d.spriteAttr s 3).getLsbD 7 then 32 else 0)

/-- Whether the pattern bit of column `pc` is 1 in row `prow` of sprite `s` (R394, R396). -/
def Vdp.spriteBit (d : Vdp) (s prow pc : Nat) : Bool :=
  (d.vramAt (d.regs.spritePatternBase + d.spriteName s * 8 + prow + (if 8 ≤ pc then 16 else 0))).getLsbD
    (7 - (pc &&& 7))

/-- One set pattern bit on a column of the line (R396, R399). -/
def SpriteScan.plot (col : Colour) (sx : Nat) (sc : SpriteScan) : SpriteScan :=
  let m := sc.mask.getD sx 0
  let line := if col ≠ 0 ∧ m < 2 then sc.line.set sx col else sc.line
  if m ≠ 0 then { sc with line := line, status := sc.status ||| 0x20#8 }
  else { sc with line := line, mask := sc.mask.set sx (col.toNat + 1) }

/-- Screen pixel `i` of sprite `s` in pattern row `prow` (R396, R397). -/
def Vdp.drawPixel (d : Vdp) (s prow i : Nat) (sc : SpriteScan) : SpriteScan :=
  let sx := d.spriteX s + (i : Int)
  if sx < 0 ∨ 255 < sx then sc
  else if d.spriteBit s prow (i >>> d.regs.mag) then sc.plot (d.spriteColour s) sx.toNat
  else sc

/-- `DrawSprite` (R396). -/
def Vdp.drawSprite (d : Vdp) (s prow : Nat) (sc : SpriteScan) : SpriteScan :=
  (List.range (d.regs.spriteSize * (1 + d.regs.mag))).foldl (fun acc i => d.drawPixel s prow i acc) sc

/-- The sentinel's index into status bits 4:0, unless the fifth-sprite flag is set (R392). -/
def storeSentinel (s : Nat) (status : Byte) : Byte :=
  if status.getLsbD 6 then status else (status &&& 0xE0#8) ||| BitVec.ofNat 8 s

/-- The fifth sprite's flag and index, unless the flag is set already (R398). -/
def storeFifth (s : Nat) (status : Byte) : Byte :=
  if status.getLsbD 6 then status else (status &&& 0xA0#8) ||| 0x40#8 ||| BitVec.ofNat 8 s

/-- The scan of the entries from `s` on, `n` of them (R391). -/
def Vdp.scanSprites (d : Vdp) (y : Nat) : Nat → Nat → SpriteScan → SpriteScan
  | 0, _, sc => sc
  | n + 1, s, sc =>
    if d.spriteAttr s 0 = 0xD0#8 then { sc with status := storeSentinel s sc.status }
    else
      let prow := d.spriteRow y s
      if prow < 0 ∨ (d.regs.spriteSize : Int) ≤ prow then d.scanSprites y n (s + 1) sc
      else if sc.count + 1 = 5 then { sc with count := 5, status := storeFifth s sc.status }
      else
        d.scanSprites y n (s + 1)
          { d.drawSprite s prow.toNat sc with count := sc.count + 1 }

/-- `Sprites(y, line)` (R390, R391). The mask is all 0 at the first intersecting sprite (R395). -/
def Vdp.sprites (d : Vdp) (y : Nat) (line : LineBuf) : SpriteScan :=
  d.scanSprites y 32 0 ⟨line, List.replicate activeColumns 0, d.status, 0⟩

/-! ### One scanline (R380, R381, R387 to R389) -/

/-- `PALETTE[i]` (R352). -/
def paletteColour (p : Params) (i : Colour) : Rgba := p.palette.getD i.toNat default

/-- `Blit`: index 0 shows the backdrop (R388). -/
def Vdp.blit (p : Params) (y : Nat) (line : LineBuf) (d : Vdp) : Vdp :=
  { d with
    frame := d.frame.setRow y
      (line.map fun i => paletteColour p (if i = 0 then d.regs.backdrop else i)) }

/-- The line of free pixels of a line whose mode the spec leaves open (U6, log entry 12). -/
def freeLine (drawn : Nat) : List Rgba := (List.range activeColumns).map (Config.freePixel drawn)

/-- Start of frame: fill the whole buffer with the backdrop, clear the status (R381). -/
def Vdp.startFrame (p : Params) (d : Vdp) : Vdp :=
  { d with frame := ⟨paletteColour p d.regs.backdrop, []⟩, status := 0x00#8 }

/-- Render active line `y` into the picture, with its status effects (R380, R387, U6). -/
def Vdp.renderLine (p : Params) (y : Nat) (d : Vdp) : Vdp :=
  if d.regs.displayOn then
    match d.regs.mode with
    | .text => d.blit p y (d.background y)
    | .unlisted =>
      { d with
        status := (d.sprites y (d.background y)).status
        frame := d.frame.setRow y (freeLine d.linesDrawn)
        linesDrawn := d.linesDrawn + 1 }
    | _ =>
      let sc := d.sprites y (d.background y)
      ({ d with status := sc.status } : Vdp).blit p y sc.line
  else d.blit p y (List.replicate activeColumns d.regs.backdrop)

/-- `ProcessScanline(n)` (R380): whether it emits an IRQ pulse (R389), and the card after it. -/
def Vdp.processScanline (p : Params) (n : Nat) (d : Vdp) : Bool × Vdp :=
  let d1 := if n = 0 then d.startFrame p else d
  let d2 := if n < activeRows then d1.renderLine p n else d1
  if n = 191 ∧ d2.regs.ie = true then (true, { d2 with status := d2.status ||| 0x80#8 })
  else (false, d2)

/-- One turn of the pacing loop (R370): take a line's cycles off the pace, process the scanline and go
to the next; whether an IRQ pulse and whether FrameReady was emitted. -/
def Vdp.nextLine (p : Params) (perLine : Rat) (d : Vdp) : Bool × Bool × Vdp :=
  let r := ({ d with pace := d.pace - perLine } : Vdp).processScanline p d.scanline
  let next := d.scanline + 1
  if next = p.totalScanlines then (r.1, true, { r.2 with scanline := 0 })
  else (r.1, false, { r.2 with scanline := next })

/-- `cycles_per_line`, an exact rational (R370). -/
def cyclesPerLine (p : Params) : Rat :=
  (p.cpuFreqHz : Rat) / ((p.frameRateHz * p.totalScanlines : Nat) : Rat)

end Sys2Proof.Machine
end

