-- ==== Sys2Proof/Machine/Devices.lean ====
section
/-!
DEFINITION. The device half of the machine tick (`20_memory.md` R110, R112, R113): which card is ticked
when and in which order, with every pulse acting at once, inside the tick that emits it.
-/

namespace Sys2Proof.Machine

/-- The tick of a card outside CORE (R580, R582). -/
def cardTick (c : CardId) (s : State) : State :=
  deliverAll (s.slots.tick c).1 { s with slots := (s.slots.tick c).2 }

/-- `ViaTick()` (R540). -/
def viaTick (s : State) : State :=
  deliverAll (irqIf s.via.tick.1) { s with via := s.via.tick.2 }

/-- `SoundTick` (R440). -/
def soundTick (s : State) : State := { s with snd := s.snd.tick s.params }

/-- One turn of the pacing loop in the machine (R370): the scanline's IRQ pulse acts at once (R112). -/
def vdpTurn (perLine : Rat) (s : State) : State :=
  let r := s.vdp.nextLine s.params perLine
  deliverAll (irqIf r.1) { s with vdp := r.2.2, frameReady := s.frameReady || r.2.1 }

/-- The pacing loop (R370), with a bound on its turns. -/
def vdpLoop (perLine : Rat) : Nat → State → State
  | 0, s => s
  | n + 1, s => if perLine ≤ s.vdp.pace then vdpLoop perLine n (vdpTurn perLine s) else s

/-- `VdpTick` (R370). The loop runs while the pace holds another line, so at most `pace / perLine` times
(log entry 22). -/
def vdpTick (s : State) : State :=
  let perLine := cyclesPerLine s.params
  let pace := s.vdp.pace + (s.params.tickInterval : Rat)
  vdpLoop perLine (pace / perLine).floor.toNat { s with vdp := { s.vdp with pace := pace } }

/-- The VIA's tick where it is due: `coarse` says whether the place is among the coarse ticks. The VIA has
its place in every machine tick when `VIA_TICK_EVERY_CYCLE` holds, as it does on this hardware (R110, C3),
and else among the coarse ticks, as C3 reads `D0` §5 (log entry 20). -/
def viaTickAt (coarse : Bool) (s : State) : State :=
  if s.params.viaTickEveryCycle = !coarse then viaTick s else s

/-- The coarse ticks, in slot order (R110). -/
def coarseTicks (s : State) : State :=
  vdpTick (soundTick (viaTickAt true (cardTick .storage (cardTick .rtc (cardTick .ram2 (cardTick .ram1 s))))))

/-- Everything of the machine tick after the CPU tick (R110). -/
def deviceTicks (s : State) : State :=
  let t := viaTickAt false (cardTick .serial { s with frameReady := false })
  if t.params.tickInterval ≤ t.schedAcc + 1 then
    coarseTicks { t with schedAcc := t.schedAcc + 1 - t.params.tickInterval }
  else { t with schedAcc := t.schedAcc + 1 }

end Sys2Proof.Machine
end

