-- ==== Sys2Proof/Machine/Reset.lean ====
section
/-!
DEFINITION. Reset (`70_reset_and_hazards.md` R670 to R675, `10_state.md` R75).
-/

namespace Sys2Proof.Machine

/-- `Reset()` of the CPU (R670): nothing is pushed, nothing is written. -/
def cpuReset (s : State) : State :=
  let v := memRead16 resetVector
    { s with a := 0x00#8, x := 0x00#8, y := 0x00#8, sp := 0xFD#8, p := 0x20#8 }
  { v.2 with pc := v.1, cyclesRemaining := 7, cyclesTotal := 0 }

/-- The reset of everything but the CPU (R671 to R673): the devices, then `SCHED.acc`. ROM, Cart and the
parameters stay, and so do the environment's lists (log entry 28). -/
def resetDevices (k : ResetKind) (s : State) : State :=
  { s with
    ram := match k with
      | .cold => []
      | .warm => s.ram
    via := s.via.reset
    snd := s.snd.reset k
    vdp := s.vdp.reset k
    schedAcc := 0
    posted := []
    frameReady := false
    resetRequest := none }

/-- The machine reset: devices first, the CPU last, so that the vector fetch sees the reset memory system
(R671). -/
def machineReset (k : ResetKind) (s : State) : State := cpuReset (resetDevices k s)

end Sys2Proof.Machine
end

