-- ==== Sys2Proof/Machine/Step.lean ====
section
/-!
DEFINITION. One step of the machine: one machine tick (`20_memory.md` R110), or the reset the host has
asked for between two machine ticks (R116, `70_reset_and_hazards.md` R671; log entry 4).
-/

namespace Sys2Proof.Machine

/-- `MachineTick()` (R110): the CPU tick, then the devices. -/
def machineTick (s : State) : Host.Outcome State Fault Refusal :=
  match cpuTick s with
  | .next t => .next (deviceTicks t)
  | .fault f => .fault f
  | .refused r => .refused r

/-- One step of the machine. -/
def step (s : State) : Host.Outcome State Fault Refusal :=
  match s.resetRequest with
  | some k => .next (machineReset k s)
  | none => machineTick s

/-- The state with an instruction stored where `step` fetches its next one (log entry 3). -/
def State.withFetchWord (s : State) (nbits w : Nat) : State :=
  placeBytes (tableBytes nbits w).1 (tableBytes nbits w).2.1 (tableBytes nbits w).2.2 s

end Sys2Proof.Machine
end

