-- ==== Sys2Proof/Safety.lean ====
section
/-!
DEFINITION. The terms claims about the machine use: what a run that goes on is, the invariants of the
state, what every bus access and every instruction leaves alone, and the forms of each mnemonic as
functions from an operand to the instruction that the opcode map assigns to it (`30_encoding.md` R151).
-/

namespace Sys2Proof.Machine

/-! ### Runs that go on -/

/-- A meaning, or a step, that answers a next state. -/
def GoesOn (o : Result) : Prop := ∃ t, o = .next t

/-- What the CPU reads at an address, as one byte (R90). -/
def byteAt (a : Word) (s : State) : Byte := (memRead a s).1

/-- Whether an address selects RAM, ROM or Cart: its reads have no effect (R90, R95). -/
def plainAt (a : Word) (s : State) : Prop := isPlain s.params.cartPresent a = true

/-- Two addresses select different cells of the plain stores, or one of them is no plain store. -/
def differentCell (a b : Word) (s : State) : Prop :=
  decodeAddr s.params.cartPresent a ≠ decodeAddr s.params.cartPresent b

/-! ### Invariants -/

/-- `P.B = 0` and `P.U = 1` (R25). -/
def StatusOk (s : State) : Prop := s.flag .b = false ∧ s.flag .u = true

/-- The canonical form of the four stores, each within its size (R30 to R33). -/
def StoresOk (s : State) : Prop :=
  Memory.wfBelow 32768 s.ram = true ∧ Memory.wfBelow 32768 s.rom = true ∧
    Memory.wfBelow 32768 s.cart = true ∧ Memory.wfBelow 16384 s.vdp.vram = true

/-- The scheduler's count lies in `[0, TICK_INTERVAL)`, and no pulse waits (R34, R28). -/
def SchedOk (s : State) : Prop := s.schedAcc < s.params.tickInterval ∧ s.posted = []

/-- The scanline counter and the pace lie in their ranges (R41), and the picture is in its form (R42). -/
def Vdp.Ok (p : Params) (d : Vdp) : Prop :=
  d.scanline < p.totalScanlines ∧ 0 ≤ d.pace ∧ d.pace < cyclesPerLine p ∧ d.frame.wf = true

/-- No LFSR is zero (R47), the sample pacer is below `SID_CLOCK_HZ` (R51), every sample is in `[-1, +1]`
(R51). -/
def Sound.Ok (p : Params) (c : Sound) : Prop :=
  (c.v0.lfsr ≠ 0 ∧ c.v1.lfsr ≠ 0 ∧ c.v2.lfsr ≠ 0) ∧ c.sampleAcc < p.sidClockHz ∧
    ∀ x ∈ c.out, -1 ≤ x ∧ x ≤ 1

/-- The priorities of an attachment list do not fall (R66). -/
def prioritySorted (ts : List Attachment) : Prop := ts.Pairwise fun t u => t.priority ≤ u.priority

/-- CA1 and CB1 stay 1; CA2 and CB2 follow PCR (R552). -/
def Via.LinesOk (v : Via) : Prop :=
  v.ca1 = true ∧ v.cb1 = true ∧ v.ca2 = lineOf (v.pcr.extractLsb' 1 3) ∧
    v.cb2 = lineOf (v.pcr.extractLsb' 5 3)

/-- A halted timer stands at 0; a reload is pending only in a running T1 that stands at 0 (R532, R535). -/
def Via.TimersOk (v : Via) : Prop :=
  (v.t1Running = false → v.t1c = 0) ∧ (v.t2Running = false → v.t2c = 0) ∧
    (v.t1ReloadPending = true → v.t1Running = true ∧ v.t1c = 0)

/-- The control lines and the timers are consistent, the SR flag is never set (R511), each list holds at
most 8 attachments in priority order (R66, R561). -/
def Via.Ok (v : Via) : Prop :=
  v.LinesOk ∧ v.TimersOk ∧ v.ifr.getLsbD 2 = false ∧
    (v.portA.length ≤ 8 ∧ prioritySorted v.portA) ∧ (v.portB.length ≤ 8 ∧ prioritySorted v.portB)

/-- The parameters are as the spec asks (R7). -/
def ParamsOk (s : State) : Prop := s.params.wf = true

/-! ### What is left alone -/

/-- The registers of the CPU but the status and the cycle counters agree. -/
def sameRegs (s t : State) : Prop := t.a = s.a ∧ t.x = s.x ∧ t.y = s.y ∧ t.sp = s.sp ∧ t.pc = s.pc

/-- Everything outside the CPU's registers and counters agrees: the four stores, the scheduler, the cards,
the environment's lists, the parameters and the model's own fields but the count of free decimal
results. -/
def sameMachine (s t : State) : Prop :=
  t.ram = s.ram ∧ t.rom = s.rom ∧ t.cart = s.cart ∧ t.schedAcc = s.schedAcc ∧ t.vdp = s.vdp ∧
    t.snd = s.snd ∧ t.via = s.via ∧ t.slots = s.slots ∧ t.params = s.params ∧
    t.resetRequest = s.resetRequest ∧ t.posted = s.posted ∧ t.frameReady = s.frameReady

/-- What no bus read changes: every byte store, the CPU's registers and counters, the sound card, the
scheduler, the parameters (R90). -/
def readLeavesAlone (s t : State) : Prop :=
  sameRegs s t ∧ t.p = s.p ∧ t.cyclesRemaining = s.cyclesRemaining ∧ t.cyclesTotal = s.cyclesTotal ∧
    t.ram = s.ram ∧ t.rom = s.rom ∧ t.cart = s.cart ∧ t.vdp.vram = s.vdp.vram ∧
    t.vdp.regs = s.vdp.regs ∧ t.vdp.frame = s.vdp.frame ∧ t.snd = s.snd ∧ t.schedAcc = s.schedAcc ∧
    t.params = s.params ∧ t.resetRequest = s.resetRequest ∧ t.frameReady = s.frameReady ∧
    t.bcdDrawn = s.bcdDrawn

/-- What no bus write changes: the CPU's registers and counters, ROM, Cart, the scheduler, the parameters,
the picture, the samples (R91). -/
def writeLeavesAlone (s t : State) : Prop :=
  sameRegs s t ∧ t.p = s.p ∧ t.cyclesRemaining = s.cyclesRemaining ∧ t.cyclesTotal = s.cyclesTotal ∧
    t.rom = s.rom ∧ t.cart = s.cart ∧ t.vdp.frame = s.vdp.frame ∧ t.vdp.status = s.vdp.status ∧
    t.snd.out = s.snd.out ∧ t.schedAcc = s.schedAcc ∧ t.params = s.params ∧
    t.resetRequest = s.resetRequest ∧ t.frameReady = s.frameReady ∧ t.bcdDrawn = s.bcdDrawn

/-! ### Values the rules speak of -/

/-- The number that a byte of two decimal digits stands for. -/
def bcdValue (x : Byte) : Nat := 10 * (highNibble x).toNat + (lowNibble x).toNat

/-- The address of operand byte `k` of an instruction at `PC`. -/
def byteAtPc (k : Nat) (s : State) : Byte := byteAt (s.pc + BitVec.ofNat 16 k) s

/-- The word a vector holds (R102). -/
def vectorWord (v : Word) (s : State) : Word := word (byteAt (v + 1) s) (byteAt v s)

/-- The three bytes from `PC` on lie in RAM, ROM or Cart. -/
def plainFetch (s : State) : Prop := plainAt s.pc s ∧ plainAt (s.pc + 1) s ∧ plainAt (s.pc + 2) s

/-! ### The forms of each mnemonic (R151) -/


/-- The forms of LDA (R171). -/
def ldaForm (o : Operand) : Option Instr :=
  match o with
  | .imm v => some (.ldaImm v)
  | .mem (.zp a) => some (.ldaZp a)
  | .mem (.zpX a) => some (.ldaZpX a)
  | .mem (.abs a) => some (.ldaAbs a)
  | .mem (.absX a) => some (.ldaAbsX a)
  | .mem (.absY a) => some (.ldaAbsY a)
  | .mem (.indX a) => some (.ldaIndX a)
  | .mem (.indY a) => some (.ldaIndY a)
  | .mem (.zpInd a) => some (.ldaZpInd a)
  | .mem (.zpY _) => none

/-- The forms of LDX (R172). -/
def ldxForm (o : Operand) : Option Instr :=
  match o with
  | .imm v => some (.ldxImm v)
  | .mem (.zp a) => some (.ldxZp a)
  | .mem (.zpY a) => some (.ldxZpY a)
  | .mem (.abs a) => some (.ldxAbs a)
  | .mem (.absY a) => some (.ldxAbsY a)
  | .mem (.zpX _) => none
  | .mem (.absX _) => none
  | .mem (.indX _) => none
  | .mem (.indY _) => none
  | .mem (.zpInd _) => none

/-- The forms of LDY (R173). -/
def ldyForm (o : Operand) : Option Instr :=
  match o with
  | .imm v => some (.ldyImm v)
  | .mem (.zp a) => some (.ldyZp a)
  | .mem (.zpX a) => some (.ldyZpX a)
  | .mem (.abs a) => some (.ldyAbs a)
  | .mem (.absX a) => some (.ldyAbsX a)
  | .mem (.zpY _) => none
  | .mem (.absY _) => none
  | .mem (.indX _) => none
  | .mem (.indY _) => none
  | .mem (.zpInd _) => none

/-- The forms of ADC (R220). -/
def adcForm (o : Operand) : Option Instr :=
  match o with
  | .imm v => some (.adcImm v)
  | .mem (.zp a) => some (.adcZp a)
  | .mem (.zpX a) => some (.adcZpX a)
  | .mem (.abs a) => some (.adcAbs a)
  | .mem (.absX a) => some (.adcAbsX a)
  | .mem (.absY a) => some (.adcAbsY a)
  | .mem (.indX a) => some (.adcIndX a)
  | .mem (.indY a) => some (.adcIndY a)
  | .mem (.zpInd a) => some (.adcZpInd a)
  | .mem (.zpY _) => none

/-- The forms of SBC (R221). -/
def sbcForm (o : Operand) : Option Instr :=
  match o with
  | .imm v => some (.sbcImm v)
  | .mem (.zp a) => some (.sbcZp a)
  | .mem (.zpX a) => some (.sbcZpX a)
  | .mem (.abs a) => some (.sbcAbs a)
  | .mem (.absX a) => some (.sbcAbsX a)
  | .mem (.absY a) => some (.sbcAbsY a)
  | .mem (.indX a) => some (.sbcIndX a)
  | .mem (.indY a) => some (.sbcIndY a)
  | .mem (.zpInd a) => some (.sbcZpInd a)
  | .mem (.zpY _) => none

/-- The forms of AND (R224). -/
def andForm (o : Operand) : Option Instr :=
  match o with
  | .imm v => some (.andImm v)
  | .mem (.zp a) => some (.andZp a)
  | .mem (.zpX a) => some (.andZpX a)
  | .mem (.abs a) => some (.andAbs a)
  | .mem (.absX a) => some (.andAbsX a)
  | .mem (.absY a) => some (.andAbsY a)
  | .mem (.indX a) => some (.andIndX a)
  | .mem (.indY a) => some (.andIndY a)
  | .mem (.zpInd a) => some (.andZpInd a)
  | .mem (.zpY _) => none

/-- The forms of ORA (R225). -/
def oraForm (o : Operand) : Option Instr :=
  match o with
  | .imm v => some (.oraImm v)
  | .mem (.zp a) => some (.oraZp a)
  | .mem (.zpX a) => some (.oraZpX a)
  | .mem (.abs a) => some (.oraAbs a)
  | .mem (.absX a) => some (.oraAbsX a)
  | .mem (.absY a) => some (.oraAbsY a)
  | .mem (.indX a) => some (.oraIndX a)
  | .mem (.indY a) => some (.oraIndY a)
  | .mem (.zpInd a) => some (.oraZpInd a)
  | .mem (.zpY _) => none

/-- The forms of EOR (R226). -/
def eorForm (o : Operand) : Option Instr :=
  match o with
  | .imm v => some (.eorImm v)
  | .mem (.zp a) => some (.eorZp a)
  | .mem (.zpX a) => some (.eorZpX a)
  | .mem (.abs a) => some (.eorAbs a)
  | .mem (.absX a) => some (.eorAbsX a)
  | .mem (.absY a) => some (.eorAbsY a)
  | .mem (.indX a) => some (.eorIndX a)
  | .mem (.indY a) => some (.eorIndY a)
  | .mem (.zpInd a) => some (.eorZpInd a)
  | .mem (.zpY _) => none

/-- The forms of CMP (R227). -/
def cmpForm (o : Operand) : Option Instr :=
  match o with
  | .imm v => some (.cmpImm v)
  | .mem (.zp a) => some (.cmpZp a)
  | .mem (.zpX a) => some (.cmpZpX a)
  | .mem (.abs a) => some (.cmpAbs a)
  | .mem (.absX a) => some (.cmpAbsX a)
  | .mem (.absY a) => some (.cmpAbsY a)
  | .mem (.indX a) => some (.cmpIndX a)
  | .mem (.indY a) => some (.cmpIndY a)
  | .mem (.zpInd a) => some (.cmpZpInd a)
  | .mem (.zpY _) => none

/-- The forms of CPX (R228). -/
def cpxForm (o : Operand) : Option Instr :=
  match o with
  | .imm v => some (.cpxImm v)
  | .mem (.zp a) => some (.cpxZp a)
  | .mem (.abs a) => some (.cpxAbs a)
  | .mem (.zpX _) => none
  | .mem (.zpY _) => none
  | .mem (.absX _) => none
  | .mem (.absY _) => none
  | .mem (.indX _) => none
  | .mem (.indY _) => none
  | .mem (.zpInd _) => none

/-- The forms of CPY (R229). -/
def cpyForm (o : Operand) : Option Instr :=
  match o with
  | .imm v => some (.cpyImm v)
  | .mem (.zp a) => some (.cpyZp a)
  | .mem (.abs a) => some (.cpyAbs a)
  | .mem (.zpX _) => none
  | .mem (.zpY _) => none
  | .mem (.absX _) => none
  | .mem (.absY _) => none
  | .mem (.indX _) => none
  | .mem (.indY _) => none
  | .mem (.zpInd _) => none

/-- The forms of BIT (R230). -/
def bitForm (o : Operand) : Option Instr :=
  match o with
  | .imm v => some (.bitImm v)
  | .mem (.zp a) => some (.bitZp a)
  | .mem (.zpX a) => some (.bitZpX a)
  | .mem (.abs a) => some (.bitAbs a)
  | .mem (.absX a) => some (.bitAbsX a)
  | .mem (.zpY _) => none
  | .mem (.absY _) => none
  | .mem (.indX _) => none
  | .mem (.indY _) => none
  | .mem (.zpInd _) => none

/-- The memory forms of STA (R174). -/
def staForm (o : MemMode) : Option Instr :=
  match o with
  | .zp a => some (.staZp a)
  | .zpX a => some (.staZpX a)
  | .abs a => some (.staAbs a)
  | .absX a => some (.staAbsX a)
  | .absY a => some (.staAbsY a)
  | .indX a => some (.staIndX a)
  | .indY a => some (.staIndY a)
  | .zpInd a => some (.staZpInd a)
  | .zpY _ => none

/-- The memory forms of STX (R175). -/
def stxForm (o : MemMode) : Option Instr :=
  match o with
  | .zp a => some (.stxZp a)
  | .zpY a => some (.stxZpY a)
  | .abs a => some (.stxAbs a)
  | .zpX _ => none
  | .absX _ => none
  | .absY _ => none
  | .indX _ => none
  | .indY _ => none
  | .zpInd _ => none

/-- The memory forms of STY (R176). -/
def styForm (o : MemMode) : Option Instr :=
  match o with
  | .zp a => some (.styZp a)
  | .zpX a => some (.styZpX a)
  | .abs a => some (.styAbs a)
  | .zpY _ => none
  | .absX _ => none
  | .absY _ => none
  | .indX _ => none
  | .indY _ => none
  | .zpInd _ => none

/-- The memory forms of STZ (R177). -/
def stzForm (o : MemMode) : Option Instr :=
  match o with
  | .zp a => some (.stzZp a)
  | .zpX a => some (.stzZpX a)
  | .abs a => some (.stzAbs a)
  | .absX a => some (.stzAbsX a)
  | .zpY _ => none
  | .absY _ => none
  | .indX _ => none
  | .indY _ => none
  | .zpInd _ => none

/-- The memory forms of INC (R231). -/
def incForm (o : MemMode) : Option Instr :=
  match o with
  | .zp a => some (.incZp a)
  | .zpX a => some (.incZpX a)
  | .abs a => some (.incAbs a)
  | .absX a => some (.incAbsX a)
  | .zpY _ => none
  | .absY _ => none
  | .indX _ => none
  | .indY _ => none
  | .zpInd _ => none

/-- The memory forms of DEC (R232). -/
def decForm (o : MemMode) : Option Instr :=
  match o with
  | .zp a => some (.decZp a)
  | .zpX a => some (.decZpX a)
  | .abs a => some (.decAbs a)
  | .absX a => some (.decAbsX a)
  | .zpY _ => none
  | .absY _ => none
  | .indX _ => none
  | .indY _ => none
  | .zpInd _ => none

/-- The memory forms of TRB (R237). -/
def trbForm (o : MemMode) : Option Instr :=
  match o with
  | .zp a => some (.trbZp a)
  | .abs a => some (.trbAbs a)
  | .zpX _ => none
  | .zpY _ => none
  | .absX _ => none
  | .absY _ => none
  | .indX _ => none
  | .indY _ => none
  | .zpInd _ => none

/-- The memory forms of TSB (R238). -/
def tsbForm (o : MemMode) : Option Instr :=
  match o with
  | .zp a => some (.tsbZp a)
  | .abs a => some (.tsbAbs a)
  | .zpX _ => none
  | .zpY _ => none
  | .absX _ => none
  | .absY _ => none
  | .indX _ => none
  | .indY _ => none
  | .zpInd _ => none

/-- The memory forms of ASL (R270). -/
def aslForm (o : MemMode) : Option Instr :=
  match o with
  | .zp a => some (.aslZp a)
  | .zpX a => some (.aslZpX a)
  | .abs a => some (.aslAbs a)
  | .absX a => some (.aslAbsX a)
  | .zpY _ => none
  | .absY _ => none
  | .indX _ => none
  | .indY _ => none
  | .zpInd _ => none

/-- The memory forms of LSR (R271). -/
def lsrForm (o : MemMode) : Option Instr :=
  match o with
  | .zp a => some (.lsrZp a)
  | .zpX a => some (.lsrZpX a)
  | .abs a => some (.lsrAbs a)
  | .absX a => some (.lsrAbsX a)
  | .zpY _ => none
  | .absY _ => none
  | .indX _ => none
  | .indY _ => none
  | .zpInd _ => none

/-- The memory forms of ROL (R272). -/
def rolForm (o : MemMode) : Option Instr :=
  match o with
  | .zp a => some (.rolZp a)
  | .zpX a => some (.rolZpX a)
  | .abs a => some (.rolAbs a)
  | .absX a => some (.rolAbsX a)
  | .zpY _ => none
  | .absY _ => none
  | .indX _ => none
  | .indY _ => none
  | .zpInd _ => none

/-- The memory forms of ROR (R273). -/
def rorForm (o : MemMode) : Option Instr :=
  match o with
  | .zp a => some (.rorZp a)
  | .zpX a => some (.rorZpX a)
  | .abs a => some (.rorAbs a)
  | .absX a => some (.rorAbsX a)
  | .zpY _ => none
  | .absY _ => none
  | .indX _ => none
  | .indY _ => none
  | .zpInd _ => none

/-- Part 1 of the instructions of the undefined opcodes (R153). -/
def undefinedInstrs1 : List Instr :=
  [.nopUnk02, .nopUnk03, .nopUnk07, .nopUnk0B, .nopUnk0F, .nopUnk13, .nopUnk17, .nopUnk1B,
   .nopUnk1F, .nopUnk22, .nopUnk23, .nopUnk27, .nopUnk2B, .nopUnk2F, .nopUnk33, .nopUnk37,
   .nopUnk3B, .nopUnk3F, .nopUnk42, .nopUnk43, .nopUnk44, .nopUnk47, .nopUnk4B, .nopUnk4F,
   .nopUnk53, .nopUnk54]

/-- Part 2 of the instructions of the undefined opcodes (R153). -/
def undefinedInstrs2 : List Instr :=
  [.nopUnk57, .nopUnk5B, .nopUnk5C, .nopUnk5F, .nopUnk62, .nopUnk63, .nopUnk67, .nopUnk6B,
   .nopUnk6F, .nopUnk73, .nopUnk77, .nopUnk7B, .nopUnk7F, .nopUnk82, .nopUnk83, .nopUnk87,
   .nopUnk8B, .nopUnk8F, .nopUnk93, .nopUnk97, .nopUnk9B, .nopUnk9F, .nopUnkA3, .nopUnkA7,
   .nopUnkAB, .nopUnkAF]

/-- Part 3 of the instructions of the undefined opcodes (R153). -/
def undefinedInstrs3 : List Instr :=
  [.nopUnkB3, .nopUnkB7, .nopUnkBB, .nopUnkBF, .nopUnkC2, .nopUnkC3, .nopUnkC7, .nopUnkCB,
   .nopUnkCF, .nopUnkD3, .nopUnkD4, .nopUnkD7, .nopUnkDB, .nopUnkDC, .nopUnkDF, .nopUnkE2,
   .nopUnkE3, .nopUnkE7, .nopUnkEB, .nopUnkEF, .nopUnkF3, .nopUnkF4, .nopUnkF7, .nopUnkFB,
   .nopUnkFC, .nopUnkFF]

/-- The instructions of the 78 undefined opcodes (R153). -/
def undefinedInstrs : List Instr :=
  undefinedInstrs1 ++ undefinedInstrs2 ++ undefinedInstrs3

/-- The instructions that make no bus access after their fetch and take no operand byte: transfers, the
accumulator forms, index steps, flag instructions and NOP (R134, R178 to R183, R233 to R236, R320 to R327). -/
def registerInstrs : List Instr :=
  [.aslA, .clc, .incA, .rolA, .sec, .decA, .lsrA, .cli, .rorA,
   .sei, .dey, .txa, .tya, .txs, .tay, .tax, .clv, .tsx,
   .iny, .dex, .cld, .inx, .nop, .sed]

/-- The forms that write `A` from a read operand. -/
def formsToA : List (Operand → Option Instr) := [ldaForm, adcForm, sbcForm, andForm, oraForm, eorForm]

/-- The forms that only read their operand and set flags. -/
def formsToFlags : List (Operand → Option Instr) := [cmpForm, cpxForm, cpyForm, bitForm]

/-- Every form that only reads its operand (R161). -/
def readForms : List (Operand → Option Instr) := formsToA ++ formsToFlags ++ [ldxForm, ldyForm]

/-- Every form that stores without reading its operand (R174 to R177). -/
def storeForms : List (MemMode → Option Instr) := [staForm, stxForm, styForm, stzForm]

/-- Every read-modify-write form on memory (R274). -/
def modifyForms : List (MemMode → Option Instr) :=
  [incForm, decForm, trbForm, tsbForm, aslForm, lsrForm, rolForm, rorForm]

/-- A memory mode of each kind, in the order in which the instruction rules list the modes. -/
def memModes : List MemMode :=
  [.zp 0, .zpX 0, .zpY 0, .abs 0, .absX 0, .absY 0, .indX 0, .indY 0, .zpInd 0]

/-- The opcode bytes of a mnemonic's memory forms, in that order (R151). -/
def opcodesOfMem (f : MemMode → Option Instr) : List Byte :=
  memModes.filterMap fun m => (f m).map Instr.opcode

/-- The opcode bytes of a mnemonic that reads its operand: the immediate form, then the memory forms
(R151). -/
def opcodesOf (f : Operand → Option Instr) : List Byte :=
  ((f (.imm 0)).map Instr.opcode).toList ++ opcodesOfMem fun m => f (.mem m)

/-- The cost of an instruction: its base cost and a penalty (R131). -/
def costOf (i : Instr) (s : State) (penalty : Nat) : Nat := baseCost s.params i.opcode + penalty

end Sys2Proof.Machine
end

