-- ==== Sys2Proof/Certificates/Slice0/Obligations.lean ====
section
/-! DEFINITION. The statements about the machine that the provers prove. -/

open Sys2Proof Sys2Proof.Machine

/-! ### Encoding -/

/-- Decode and encode agree on every instruction, whatever bytes follow it (R130, R150). -/
def Obligations.DecodeEncode : Prop :=
  ∀ (i : Instr) (rest : List Byte), decode (i.encode ++ rest) = .ok (i, rest)

/-- Every byte sequence that decodes is the encoding of what it decodes to: no two encodings of one
instruction, no bit dropped (R130, R150). -/
def Obligations.EncodeDecode : Prop :=
  ∀ (bytes : List Byte) (i : Instr) (rest : List Byte),
    decode bytes = .ok (i, rest) → i.encode ++ rest = bytes

/-- Words written out from the opcode map decode to the instructions they stand for (R150, R153). -/
def Obligations.SampleWords : Prop :=
  decode [0xA9#8, 0x42#8] = .ok (.ldaImm 0x42#8, []) ∧
  decode [0x8D#8, 0x00#8, 0x02#8] = .ok (.staAbs 0x0200#16, []) ∧
  decode [0x91#8, 0x10#8] = .ok (.staIndY 0x10#8, []) ∧
  decode [0x69#8, 0x01#8] = .ok (.adcImm 0x01#8, []) ∧
  decode [0xCA#8] = .ok (.dex, []) ∧
  decode [0x1E#8, 0x34#8, 0x12#8] = .ok (.aslAbsX 0x1234#16, []) ∧
  decode [0x6C#8, 0xFF#8, 0x12#8] = .ok (.jmpInd 0x12FF#16, []) ∧
  decode [0xD0#8, 0xFA#8] = .ok (.bne 0xFA#8, []) ∧
  decode [0x00#8] = .ok (.brk, []) ∧ decode [0xCB#8] = .ok (.nopUnkCB, [])

/-! ### Bus -/

/-- Every address selects the target the address map gives, at the offset of its store or window
(R82, R84, R85). -/
def Obligations.AddressMap : Prop :=
  ∀ (cart : Bool) (a : Word),
    (a.toNat < 0x8000 → ∃ c, decodeAddr cart a = .ram c ∧ c.toNat = a.toNat) ∧
    (0x8000 ≤ a.toNat ∧ a.toNat < 0x8400 → decodeAddr cart a = .card .ram1 (a.toNat % 1024)) ∧
    (0x8400 ≤ a.toNat ∧ a.toNat < 0x8800 → decodeAddr cart a = .card .ram2 (a.toNat % 1024)) ∧
    (0x8800 ≤ a.toNat ∧ a.toNat < 0x8C00 → decodeAddr cart a = .card .rtc (a.toNat % 32)) ∧
    (0x8C00 ≤ a.toNat ∧ a.toNat < 0x9000 → decodeAddr cart a = .card .storage (a.toNat % 16)) ∧
    (0x9000 ≤ a.toNat ∧ a.toNat < 0x9400 → decodeAddr cart a = .card .serial (a.toNat % 4)) ∧
    (0x9400 ≤ a.toNat ∧ a.toNat < 0x9800 → ∃ n, decodeAddr cart a = .via n ∧ n.toNat = a.toNat % 16) ∧
    (0x9800 ≤ a.toNat ∧ a.toNat < 0x9C00 → ∃ n, decodeAddr cart a = .sound n ∧ n.toNat = a.toNat % 32) ∧
    (0x9C00 ≤ a.toNat ∧ a.toNat < 0xA000 → decodeAddr cart a = .video (decide (a.toNat % 2 = 1))) ∧
    (0xA000 ≤ a.toNat ∧ a.toNat < 0xC000 →
      ∃ c, decodeAddr cart a = .rom c ∧ c.toNat = a.toNat - 0x8000) ∧
    (0xC000 ≤ a.toNat →
      ∃ c, decodeAddr cart a = (if cart then .cart c else .rom c) ∧ c.toNat = a.toNat - 0x8000)

/-- A bus read changes no store, no CPU register and no counter; a read of RAM, ROM or Cart changes nothing
at all and gives the cell (R90, R95). -/
def Obligations.BusReadEffect : Prop :=
  ∀ (a : Word) (s : State),
    readLeavesAlone s (memRead a s).2 ∧
    (plainAt a s → (memRead a s).2 = s) ∧
    (a.toNat < 0x8000 → byteAt a s = Memory.read s.ram a.toNat) ∧
    (0xA000 ≤ a.toNat → (s.params.cartPresent = false ∨ a.toNat < 0xC000) →
      byteAt a s = Memory.read s.rom (a.toNat - 0x8000)) ∧
    (0xC000 ≤ a.toNat → s.params.cartPresent = true → byteAt a s = Memory.read s.cart (a.toNat - 0x8000))

/-- A bus write leaves the CPU's registers, ROM, Cart and every other cell alone; a write to ROM or Cart
changes nothing; a byte written to RAM is read back (R91, R105). -/
def Obligations.BusWriteEffect : Prop :=
  ∀ (a : Word) (x : Byte) (s : State),
    writeLeavesAlone s (memWrite a x s) ∧
    (0xA000 ≤ a.toNat → memWrite a x s = s) ∧
    (∀ b, plainAt b s → b ≠ a → byteAt b (memWrite a x s) = byteAt b s) ∧
    (a.toNat < 0x8000 → Memory.wf s.ram = true →
      byteAt a (memWrite a x s) = x ∧ Memory.wf (memWrite a x s).ram = true)

/-- The effective address and `crossed` of every mode that has one (R136 to R145). -/
def Obligations.EffectiveAddresses : Prop :=
  ∀ (z : Byte) (a : Word) (s : State),
    let zpWord (p : Byte) : Word := word (byteAt (zext16 (p + 1)) s) (byteAt (zext16 p) s)
    (eaOf (.zp z) s = zext16 z ∧ crossedOf (.zp z) s = false) ∧
    (eaOf (.zpX z) s = zext16 (z + s.x) ∧ crossedOf (.zpX z) s = false) ∧
    (eaOf (.zpY z) s = zext16 (z + s.y) ∧ crossedOf (.zpY z) s = false) ∧
    (eaOf (.abs a) s = a ∧ crossedOf (.abs a) s = false) ∧
    (eaOf (.absX a) s = a + zext16 s.x ∧ crossedOf (.absX a) s = decide (hi (a + zext16 s.x) ≠ hi a)) ∧
    (eaOf (.absY a) s = a + zext16 s.y ∧ crossedOf (.absY a) s = decide (hi (a + zext16 s.y) ≠ hi a)) ∧
    (eaOf (.indX z) s = zpWord (z + s.x) ∧ crossedOf (.indX z) s = false) ∧
    (eaOf (.indY z) s = zpWord z + zext16 s.y ∧
      crossedOf (.indY z) s = decide (hi (zpWord z + zext16 s.y) ≠ hi (zpWord z))) ∧
    (eaOf (.zpInd z) s = zpWord z ∧ crossedOf (.zpInd z) s = false)

/-! ### The step -/

/-- A step runs the decoded instruction: when an instruction is due, no reset is asked for and the bytes at
`PC` lie in plain memory and decode to `i`, the step is `exec i` with `PC` past its bytes, then the pulses
its accesses posted, one CPU cycle, and the devices (R110, R111, R112, R131). -/
def Obligations.StepRunsDecoded : Prop :=
  ∀ (s u : State) (i : Instr) (rest : List Byte),
    s.resetRequest = none → s.cyclesRemaining = 0 → s.params.isaTier = .baseAndCmos → plainFetch s →
    decode [byteAtPc 0 s, byteAtPc 1 s, byteAtPc 2 s] = .ok (i, rest) →
    exec i { s with pc := s.pc + BitVec.ofNat 16 i.length } = .next u →
    step s = .next (deviceTicks (countCycle (deliverPosted u)))

/-- While cycles of an instruction remain, a step only passes one cycle and ticks the devices; a reset the
host has asked for is carried out instead; under `ISA_TIER = base` the 27 opcodes of tier `cmos` run as the
undefined ones, one byte fetched and one cycle spent (R111, R116, R671, U2). The devices: between two coarse
ticks the VIA alone of the CORE devices is clocked, once; at a coarse tick the VIA and the sound card are
each clocked once (R110). That a reset takes the place of a tick is the model's choice (log entry 4). -/
def Obligations.StepOtherwise : Prop :=
  ∀ (s : State),
    (s.resetRequest = none → s.cyclesRemaining ≠ 0 →
      step s = .next (deviceTicks
        { s with cyclesRemaining := s.cyclesRemaining - 1, cyclesTotal := s.cyclesTotal + 1 })) ∧
    (∀ k, s.resetRequest = some k → step s = .next (machineReset k s)) ∧
    (s.resetRequest = none → s.cyclesRemaining = 0 → s.params.isaTier = .base → plainAt s.pc s →
      byteAtPc 0 s ∈ cmosOpcodes ++ undefinedOpcodes → s.posted = [] → ParamsOk s →
      step s = .next (deviceTicks
        { s with pc := s.pc + 1, cyclesRemaining := 0, cyclesTotal := s.cyclesTotal + 1 })) ∧
    (ParamsOk s → (deviceTicks s).via = s.via.tick.2 ∧
      (s.schedAcc + 1 < s.params.tickInterval →
        (deviceTicks s).schedAcc = s.schedAcc + 1 ∧ (deviceTicks s).snd = s.snd ∧
          (deviceTicks s).vdp = s.vdp) ∧
      (s.params.tickInterval ≤ s.schedAcc + 1 →
        (deviceTicks s).schedAcc = s.schedAcc + 1 - s.params.tickInterval ∧
          (deviceTicks s).snd = s.snd.tick s.params))

/-! ### Loads, stores, transfers, the stack -/

/-- LDA, LDX and LDY, every form: the register is the operand, `N` and `Z` follow it, the cost has the
page-crossing penalty (R171, R172, R173). -/
def Obligations.LoadResult : Prop :=
  (opcodesOf ldaForm = [0xA9#8, 0xA5#8, 0xB5#8, 0xAD#8, 0xBD#8, 0xB9#8, 0xA1#8, 0xB1#8, 0xB2#8] ∧
    opcodesOf ldxForm = [0xA2#8, 0xA6#8, 0xB6#8, 0xAE#8, 0xBE#8] ∧
    opcodesOf ldyForm = [0xA0#8, 0xA4#8, 0xB4#8, 0xAC#8, 0xBC#8]) ∧
  ∀ (o : Operand) (i : Instr) (s : State),
    let m := (readOperand o s).1
    let t := (readOperand o s).2
    let cost := costOf i s (crossPenalty (o.crossed s))
    (ldaForm o = some i →
      exec i s = .next { t with a := m, p := nzBits m t.p, cyclesRemaining := cost }) ∧
    (ldxForm o = some i →
      exec i s = .next { t with x := m, p := nzBits m t.p, cyclesRemaining := cost }) ∧
    (ldyForm o = some i →
      exec i s = .next { t with y := m, p := nzBits m t.p, cyclesRemaining := cost })

/-- STA, STX, STY and STZ, every form: one write at the effective address, no flag, no register, no
page-crossing penalty (R174 to R177). -/
def Obligations.StoreResult : Prop :=
  (opcodesOfMem staForm = [0x85#8, 0x95#8, 0x8D#8, 0x9D#8, 0x99#8, 0x81#8, 0x91#8, 0x92#8] ∧
    opcodesOfMem stxForm = [0x86#8, 0x96#8, 0x8E#8] ∧
    opcodesOfMem styForm = [0x84#8, 0x94#8, 0x8C#8] ∧
    opcodesOfMem stzForm = [0x64#8, 0x74#8, 0x9C#8, 0x9E#8]) ∧
  ∀ (m : MemMode) (i : Instr) (s : State),
    let stored (x : Byte) : Host.Outcome State Fault Refusal :=
      .next { memWrite (eaOf m s) x s with cyclesRemaining := costOf i s 0 }
    (staForm m = some i → exec i s = stored s.a) ∧
    (stxForm m = some i → exec i s = stored s.x) ∧
    (styForm m = some i → exec i s = stored s.y) ∧
    (stzForm m = some i → exec i s = stored 0x00#8)

/-- What a store or a read-modify-write instruction leaves alone: every cell of RAM, ROM and Cart but the one
at the effective address, the registers, and (for a store) the flags (R91, R170, R274). -/
def Obligations.StoreFrame : Prop :=
  ∀ (m : MemMode) (i : Instr) (s t : State),
    (∃ f ∈ storeForms ++ modifyForms, f m = some i) → exec i s = .next t →
    sameRegs s t ∧ t.rom = s.rom ∧ t.cart = s.cart ∧ t.params = s.params ∧
    t.cyclesTotal = s.cyclesTotal ∧
    (∀ b, plainAt b s → b ≠ eaOf m s → byteAt b t = byteAt b s) ∧
    ((∃ f ∈ storeForms, f m = some i) → t.p = s.p) ∧
    (∀ g : Flag, g ≠ .n → g ≠ .z → g ≠ .c → t.flag g = s.flag g)

/-- What an instruction that only reads its operand leaves alone: all memory, `SP`, `PC`, the registers and
flags that its rule does not name (R170, R171 to R173, R220 to R230). -/
def Obligations.ReadFrame : Prop :=
  ∀ (o : Operand) (i : Instr) (s t : State),
    (∃ f ∈ readForms, f o = some i) → exec i s = .next t →
    (t.sp = s.sp ∧ t.pc = s.pc ∧ t.ram = s.ram ∧ t.rom = s.rom ∧ t.cart = s.cart ∧
      t.vdp.vram = s.vdp.vram ∧ t.snd = s.snd ∧ t.params = s.params ∧ t.cyclesTotal = s.cyclesTotal) ∧
    (∀ b, plainAt b s → byteAt b t = byteAt b s) ∧
    (ldxForm o ≠ some i → t.x = s.x) ∧ (ldyForm o ≠ some i → t.y = s.y) ∧
    ((∀ f ∈ formsToA, f o ≠ some i) → t.a = s.a) ∧
    (t.flag .i = s.flag .i ∧ t.flag .d = s.flag .d ∧ t.flag .b = s.flag .b ∧ t.flag .u = s.flag .u) ∧
    ((∀ f ∈ [adcForm, sbcForm, cmpForm, cpxForm, cpyForm], f o ≠ some i) → t.flag .c = s.flag .c) ∧
    ((∀ f ∈ [adcForm, sbcForm, bitForm], f o ≠ some i) → t.flag .v = s.flag .v)

/-- What an instruction that works on registers alone leaves alone: every address reads as before, and
nothing outside the CPU changes (R134, R178 to R183, R233 to R236, R320 to R327, R330). -/
def Obligations.RegisterFrame : Prop :=
  ∀ (i : Instr) (s t : State),
    i ∈ registerInstrs ++ undefinedInstrs → exec i s = .next t →
    sameMachine s t ∧ (∀ b, byteAt b t = byteAt b s) ∧ t.pc = s.pc ∧
    t.cyclesTotal = s.cyclesTotal ∧ t.bcdDrawn = s.bcdDrawn ∧
    t.flag .b = s.flag .b ∧ t.flag .u = s.flag .u ∧ (i ≠ .txs → t.sp = s.sp)

/-- The register transfers; TXS alone leaves the flags (R178 to R183). -/
def Obligations.TransferResult : Prop :=
  ([Instr.tax, .tay, .txa, .tya, .tsx, .txs].map Instr.encode =
      [[0xAA#8], [0xA8#8], [0x8A#8], [0x98#8], [0xBA#8], [0x9A#8]]) ∧
  ∀ (s : State),
    exec .tax s = .next { s with x := s.a, p := nzBits s.a s.p, cyclesRemaining := costOf .tax s 0 } ∧
    exec .tay s = .next { s with y := s.a, p := nzBits s.a s.p, cyclesRemaining := costOf .tay s 0 } ∧
    exec .txa s = .next { s with a := s.x, p := nzBits s.x s.p, cyclesRemaining := costOf .txa s 0 } ∧
    exec .tya s = .next { s with a := s.y, p := nzBits s.y s.p, cyclesRemaining := costOf .tya s 0 } ∧
    exec .tsx s = .next { s with x := s.sp, p := nzBits s.sp s.p, cyclesRemaining := costOf .tsx s 0 } ∧
    exec .txs s = .next { s with sp := s.x, cyclesRemaining := costOf .txs s 0 }

/-- PHA, PHP, PHX, PHY: one byte at `0x0100 + SP`, then `SP` one less, wrapping in page one; PHP pushes `P`
with bits 4 and 5 set; every other cell reads as before (R100, R184, R185, R188, R189). -/
def Obligations.PushResult : Prop :=
  ([Instr.pha, .php, .phx, .phy].map Instr.encode = [[0x48#8], [0x08#8], [0xDA#8], [0x5A#8]]) ∧
  ∀ (i : Instr) (x : Byte) (s : State),
    (i = .pha ∧ x = s.a ∨ i = .php ∧ x = s.p ||| 0x30#8 ∨ i = .phx ∧ x = s.x ∨ i = .phy ∧ x = s.y) →
    exec i s = .next { s with
      ram := Memory.write s.ram (0x0100 + s.sp.toNat) x
      sp := s.sp - 1
      cyclesRemaining := costOf i s 0 } ∧
    (∀ (t : State) (b : Word), exec i s = .next t → plainAt b s → b.toNat ≠ 0x0100 + s.sp.toNat →
      byteAt b t = byteAt b s)

/-- PLA, PLX, PLY, PLP: `SP` one more, wrapping in page one, then the byte at `0x0100 + SP`; PLP keeps the
stored bits 4 and 5 (R101, R186, R187, R190, R191). -/
def Obligations.PullResult : Prop :=
  ([Instr.pla, .plx, .ply, .plp].map Instr.encode = [[0x68#8], [0xFA#8], [0x7A#8], [0x28#8]]) ∧
  ∀ (s : State),
    let m := Memory.read s.ram (0x0100 + (s.sp + 1).toNat)
    exec .pla s = .next { s with
      a := m, p := nzBits m s.p, sp := s.sp + 1, cyclesRemaining := costOf .pla s 0 } ∧
    exec .plx s = .next { s with
      x := m, p := nzBits m s.p, sp := s.sp + 1, cyclesRemaining := costOf .plx s 0 } ∧
    exec .ply s = .next { s with
      y := m, p := nzBits m s.p, sp := s.sp + 1, cyclesRemaining := costOf .ply s 0 } ∧
    exec .plp s = .next { s with
      p := (m &&& 0xCF#8) ||| (s.p &&& 0x30#8), sp := s.sp + 1, cyclesRemaining := costOf .plp s 0 }

/-! ### Arithmetic -/

/-- What `N` and `Z` become after a result, and that no other flag changes (R13, R24); and that the `V` of an
addition or subtraction is signed overflow: the exact signed sum or difference does not fit in a byte (R24,
R220, R221). -/
def Obligations.ResultFlags : Prop :=
  (∀ (r p : Byte),
    getFlag .z (nzBits r p) = decide (r = 0) ∧ getFlag .n (nzBits r p) = r.getLsbD 7 ∧
    ∀ f : Flag, f ≠ .z → f ≠ .n → getFlag f (nzBits r p) = getFlag f p) ∧
  ∀ (a m : Byte) (c : Bool),
    let sum := a.toInt + m.toInt + (if c then 1 else 0)
    let difference := a.toInt - m.toInt - (if c then 0 else 1)
    ((adcBinary a m c).v = true ↔ sum < -128 ∨ 127 < sum) ∧
    ((sbcBinary a m c).v = true ↔ difference < -128 ∨ 127 < difference)

/-- ADC, every form, in binary mode: the 9-bit sum of `A`, the operand and `C` (R220). -/
def Obligations.AdcBinaryResult : Prop :=
  (opcodesOf adcForm = [0x69#8, 0x65#8, 0x75#8, 0x6D#8, 0x7D#8, 0x79#8, 0x61#8, 0x71#8, 0x72#8]) ∧
  ∀ (o : Operand) (i : Instr) (s : State), adcForm o = some i →
    (s.flag .d = false ∨ s.params.decimalImplemented = false) →
    let m := (readOperand o s).1
    let t := (readOperand o s).2
    let sum := s.a.toNat + m.toNat + (s.flag .c).toNat
    let r := BitVec.ofNat 8 sum
    ∃ q, exec i s = .next { t with
        a := r, p := q, cyclesRemaining := costOf i s (crossPenalty (o.crossed s)) } ∧
      getFlag .c q = decide (255 < sum) ∧
      getFlag .v q = decide (((s.a ^^^ r) &&& (m ^^^ r) &&& 0x80#8) ≠ 0) ∧
      getFlag .z q = decide (r = 0) ∧ getFlag .n q = r.getLsbD 7 ∧
      ∀ f : Flag, f ≠ .c → f ≠ .v → f ≠ .z → f ≠ .n → getFlag f q = s.flag f

/-- SBC, every form, in binary mode: ADC of the inverted operand; `C = 1` means no borrow (R221). -/
def Obligations.SbcBinaryResult : Prop :=
  (opcodesOf sbcForm = [0xE9#8, 0xE5#8, 0xF5#8, 0xED#8, 0xFD#8, 0xF9#8, 0xE1#8, 0xF1#8, 0xF2#8]) ∧
  ∀ (o : Operand) (i : Instr) (s : State), sbcForm o = some i →
    (s.flag .d = false ∨ s.params.decimalImplemented = false) →
    let m := (readOperand o s).1
    let t := (readOperand o s).2
    let c := (s.flag .c).toNat
    let n := m ^^^ 0xFF#8
    let r := BitVec.ofNat 8 (s.a.toNat + n.toNat + c)
    r = BitVec.ofInt 8 ((s.a.toNat : Int) - m.toNat - (1 - c)) ∧
    ∃ q, exec i s = .next { t with
        a := r, p := q, cyclesRemaining := costOf i s (crossPenalty (o.crossed s)) } ∧
      getFlag .c q = decide (m.toNat + (1 - c) ≤ s.a.toNat) ∧
      getFlag .v q = decide (((s.a ^^^ r) &&& (n ^^^ r) &&& 0x80#8) ≠ 0) ∧
      getFlag .z q = decide (r = 0) ∧ getFlag .n q = r.getLsbD 7 ∧
      ∀ f : Flag, f ≠ .c → f ≠ .v → f ≠ .z → f ≠ .n → getFlag f q = s.flag f

/-- ADC, every form, in decimal mode on decimal digits: the decimal sum modulo 100 with `C` the decimal
carry, `N` and `Z` of the result, `V` of the binary addition (R222). -/
def Obligations.DecimalAddResult : Prop :=
  ∀ (o : Operand) (i : Instr) (s : State), adcForm o = some i →
    s.flag .d = true → s.params.decimalImplemented = true →
    validBcd s.a = true → validBcd (readOperand o s).1 = true →
    let m := (readOperand o s).1
    let t := (readOperand o s).2
    let sum := bcdValue s.a + bcdValue m + (s.flag .c).toNat
    ∃ r q, exec i s = .next { t with
        a := r, p := q, cyclesRemaining := costOf i s (crossPenalty (o.crossed s)) } ∧
      validBcd r = true ∧ bcdValue r = sum % 100 ∧ getFlag .c q = decide (100 ≤ sum) ∧
      getFlag .v q = (adcBinary s.a m (s.flag .c)).v ∧
      getFlag .z q = decide (r = 0) ∧ getFlag .n q = r.getLsbD 7 ∧
      ∀ f : Flag, f ≠ .c → f ≠ .v → f ≠ .z → f ≠ .n → getFlag f q = s.flag f

/-- SBC, every form, in decimal mode on decimal digits: the decimal difference modulo 100 with `C = 0` when a
borrow occurred, `N` and `Z` of the result, `V` of the binary subtraction (R223). -/
def Obligations.DecimalSubResult : Prop :=
  ∀ (o : Operand) (i : Instr) (s : State), sbcForm o = some i →
    s.flag .d = true → s.params.decimalImplemented = true →
    validBcd s.a = true → validBcd (readOperand o s).1 = true →
    let m := (readOperand o s).1
    let t := (readOperand o s).2
    let borrow := if s.flag .c then 0 else 1
    ∃ r q, exec i s = .next { t with
        a := r, p := q, cyclesRemaining := costOf i s (crossPenalty (o.crossed s)) } ∧
      validBcd r = true ∧ bcdValue r = (bcdValue s.a + 100 - (bcdValue m + borrow)) % 100 ∧
      getFlag .c q = decide (bcdValue m + borrow ≤ bcdValue s.a) ∧
      getFlag .v q = (sbcBinary s.a m (s.flag .c)).v ∧
      getFlag .z q = decide (r = 0) ∧ getFlag .n q = r.getLsbD 7 ∧
      ∀ f : Flag, f ≠ .c → f ≠ .v → f ≠ .z → f ≠ .n → getFlag f q = s.flag f

/-- ADC and SBC in decimal mode with a digit above 9: `A`, `N`, `Z`, `C`, `V` take a free value, whatever it
is; `PC`, cycles and memory are as for valid operands (U3; the free value is the model's, log entry 11). -/
def Obligations.OpenDecimalResult : Prop :=
  ∀ (o : Operand) (i : Instr) (s : State) (free : AluResult),
    (adcForm o = some i ∨ sbcForm o = some i) →
    s.flag .d = true → s.params.decimalImplemented = true →
    (validBcd s.a = false ∨ validBcd (readOperand o s).1 = false) →
    Config.bcdResult s.bcdDrawn = free →
    let t := (readOperand o s).2
    ∃ q, exec i s = .next { t with
        a := free.value, p := q, bcdDrawn := s.bcdDrawn + 1
        cyclesRemaining := costOf i s (crossPenalty (o.crossed s)) } ∧
      getFlag .n q = free.n ∧ getFlag .z q = free.z ∧ getFlag .c q = free.c ∧ getFlag .v q = free.v ∧
      ∀ f : Flag, f ≠ .c → f ≠ .v → f ≠ .z → f ≠ .n → getFlag f q = s.flag f

/-! ### Logic, compares, increments -/

/-- AND, ORA and EOR, every form (R224, R225, R226). -/
def Obligations.LogicResult : Prop :=
  (opcodesOf andForm = [0x29#8, 0x25#8, 0x35#8, 0x2D#8, 0x3D#8, 0x39#8, 0x21#8, 0x31#8, 0x32#8] ∧
    opcodesOf oraForm = [0x09#8, 0x05#8, 0x15#8, 0x0D#8, 0x1D#8, 0x19#8, 0x01#8, 0x11#8, 0x12#8] ∧
    opcodesOf eorForm = [0x49#8, 0x45#8, 0x55#8, 0x4D#8, 0x5D#8, 0x59#8, 0x41#8, 0x51#8, 0x52#8]) ∧
  ∀ (o : Operand) (i : Instr) (s : State),
    let m := (readOperand o s).1
    let t := (readOperand o s).2
    let result (r : Byte) : Host.Outcome State Fault Refusal := .next { t with
      a := r, p := nzBits r t.p, cyclesRemaining := costOf i s (crossPenalty (o.crossed s)) }
    (andForm o = some i → exec i s = result (s.a &&& m)) ∧
    (oraForm o = some i → exec i s = result (s.a ||| m)) ∧
    (eorForm o = some i → exec i s = result (s.a ^^^ m))

/-- CMP, CPX and CPY, every form: `C` is the unsigned comparison, `Z` equality, `N` bit 7 of the difference;
no register and no other flag changes (R227, R228, R229). -/
def Obligations.CompareResult : Prop :=
  (opcodesOf cmpForm = [0xC9#8, 0xC5#8, 0xD5#8, 0xCD#8, 0xDD#8, 0xD9#8, 0xC1#8, 0xD1#8, 0xD2#8] ∧
    opcodesOf cpxForm = [0xE0#8, 0xE4#8, 0xEC#8] ∧
    opcodesOf cpyForm = [0xC0#8, 0xC4#8, 0xCC#8]) ∧
  ∀ (o : Operand) (i : Instr) (s : State),
    let m := (readOperand o s).1
    let t := (readOperand o s).2
    let compared (r : Byte) : Prop := ∃ q, exec i s = .next { t with
        p := q, cyclesRemaining := costOf i s (crossPenalty (o.crossed s)) } ∧
      getFlag .c q = decide (m.toNat ≤ r.toNat) ∧ getFlag .z q = decide (r = m) ∧
      getFlag .n q = (r - m).getLsbD 7 ∧
      ∀ f : Flag, f ≠ .c → f ≠ .z → f ≠ .n → getFlag f q = s.flag f
    (cmpForm o = some i → compared s.a) ∧ (cpxForm o = some i → compared s.x) ∧
    (cpyForm o = some i → compared s.y)

/-- BIT, every form: `Z` from the AND; the memory forms copy bits 7 and 6 of the operand to `N` and `V`, the
immediate form leaves them (R230). -/
def Obligations.BitTestResult : Prop :=
  (opcodesOf bitForm = [0x89#8, 0x24#8, 0x34#8, 0x2C#8, 0x3C#8]) ∧
  ∀ (o : Operand) (i : Instr) (s : State), bitForm o = some i →
    let m := (readOperand o s).1
    let t := (readOperand o s).2
    let isImm := match o with
      | .imm _ => true
      | .mem _ => false
    ∃ q, exec i s = .next { t with
        p := q, cyclesRemaining := costOf i s (crossPenalty (o.crossed s)) } ∧
      getFlag .z q = decide (s.a &&& m = 0) ∧
      getFlag .n q = (if isImm then s.flag .n else m.getLsbD 7) ∧
      getFlag .v q = (if isImm then s.flag .v else m.getLsbD 6) ∧
      ∀ f : Flag, f ≠ .z → f ≠ .n → f ≠ .v → getFlag f q = s.flag f

/-- INC and DEC, memory and accumulator: one read then one write at the same address, wrapping modulo 256
(R231, R232). -/
def Obligations.IncDecResult : Prop :=
  (opcodesOfMem incForm = [0xE6#8, 0xF6#8, 0xEE#8, 0xFE#8] ∧
    opcodesOfMem decForm = [0xC6#8, 0xD6#8, 0xCE#8, 0xDE#8] ∧
    Instr.incA.opcode = 0x1A#8 ∧ Instr.decA.opcode = 0x3A#8) ∧
  ∀ (m : MemMode) (i : Instr) (s : State),
    let b := (memRead (eaOf m s) s).1
    let t := (memRead (eaOf m s) s).2
    let put (r : Byte) : Host.Outcome State Fault Refusal :=
      .next { memWrite (eaOf m s) r { t with p := nzBits r t.p } with cyclesRemaining := costOf i s 0 }
    (incForm m = some i → exec i s = put (b + 1)) ∧ (decForm m = some i → exec i s = put (b - 1)) ∧
    exec .incA s = .next { s with
      a := s.a + 1, p := nzBits (s.a + 1) s.p, cyclesRemaining := costOf .incA s 0 } ∧
    exec .decA s = .next { s with
      a := s.a - 1, p := nzBits (s.a - 1) s.p, cyclesRemaining := costOf .decA s 0 }

/-- INX, INY, DEX, DEY wrap modulo 256 and set `N` and `Z` (R233 to R236). -/
def Obligations.IndexStepResult : Prop :=
  ([Instr.inx, .iny, .dex, .dey].map Instr.encode = [[0xE8#8], [0xC8#8], [0xCA#8], [0x88#8]]) ∧
  ∀ (s : State),
    exec .inx s = .next { s with
      x := s.x + 1, p := nzBits (s.x + 1) s.p, cyclesRemaining := costOf .inx s 0 } ∧
    exec .iny s = .next { s with
      y := s.y + 1, p := nzBits (s.y + 1) s.p, cyclesRemaining := costOf .iny s 0 } ∧
    exec .dex s = .next { s with
      x := s.x - 1, p := nzBits (s.x - 1) s.p, cyclesRemaining := costOf .dex s 0 } ∧
    exec .dey s = .next { s with
      y := s.y - 1, p := nzBits (s.y - 1) s.p, cyclesRemaining := costOf .dey s 0 }

/-- TRB and TSB, every form: `Z` from the byte before the write; no other flag changes (R237, R238). -/
def Obligations.TestBitsResult : Prop :=
  (opcodesOfMem trbForm = [0x14#8, 0x1C#8] ∧
    opcodesOfMem tsbForm = [0x04#8, 0x0C#8]) ∧
  ∀ (m : MemMode) (i : Instr) (s : State),
    let b := (memRead (eaOf m s) s).1
    let t := (memRead (eaOf m s) s).2
    let put (r : Byte) : Prop := ∃ q,
      exec i s = .next { memWrite (eaOf m s) r { t with p := q } with cyclesRemaining := costOf i s 0 } ∧
      getFlag .z q = decide (s.a &&& b = 0) ∧ ∀ f : Flag, f ≠ .z → getFlag f q = s.flag f
    (trbForm m = some i → put (b &&& ~~~s.a)) ∧ (tsbForm m = some i → put (b ||| s.a))

/-- ASL, LSR, ROL and ROR, memory and accumulator: one place, the bit shifted out to `C`, the rotates take
the old `C` in; the memory forms read once, then write once, at the same address (R270 to R274). -/
def Obligations.ShiftResult : Prop :=
  (opcodesOfMem aslForm = [0x06#8, 0x16#8, 0x0E#8, 0x1E#8] ∧
    opcodesOfMem lsrForm = [0x46#8, 0x56#8, 0x4E#8, 0x5E#8] ∧
    opcodesOfMem rolForm = [0x26#8, 0x36#8, 0x2E#8, 0x3E#8] ∧
    opcodesOfMem rorForm = [0x66#8, 0x76#8, 0x6E#8, 0x7E#8] ∧
    [Instr.aslA, .lsrA, .rolA, .rorA].map Instr.opcode = [0x0A#8, 0x4A#8, 0x2A#8, 0x6A#8]) ∧
  ∀ (m : MemMode) (i : Instr) (s : State),
    let shifted (r : Byte) (out : Bool) (q : Byte) : Prop :=
      getFlag .c q = out ∧ getFlag .z q = decide (r = 0) ∧ getFlag .n q = r.getLsbD 7 ∧
      ∀ f : Flag, f ≠ .c → f ≠ .z → f ≠ .n → getFlag f q = s.flag f
    let b := (memRead (eaOf m s) s).1
    let t := (memRead (eaOf m s) s).2
    let c := (s.flag .c).toNat
    let onMemory (r : Byte) (out : Bool) : Prop := ∃ q, shifted r out q ∧
      exec i s = .next { memWrite (eaOf m s) r { t with p := q } with cyclesRemaining := costOf i s 0 }
    let onAcc (j : Instr) (r : Byte) (out : Bool) : Prop := ∃ q, shifted r out q ∧
      exec j s = .next { s with a := r, p := q, cyclesRemaining := costOf j s 0 }
    let left (x : Byte) (carry : Nat) : Byte := BitVec.ofNat 8 (2 * x.toNat + carry)
    let right (x : Byte) (carry : Nat) : Byte := BitVec.ofNat 8 (x.toNat / 2 + 128 * carry)
    (aslForm m = some i → onMemory (left b 0) (b.getLsbD 7)) ∧
    (lsrForm m = some i → onMemory (right b 0) (b.getLsbD 0)) ∧
    (rolForm m = some i → onMemory (left b c) (b.getLsbD 7)) ∧
    (rorForm m = some i → onMemory (right b c) (b.getLsbD 0)) ∧
    onAcc .aslA (left s.a 0) (s.a.getLsbD 7) ∧ onAcc .lsrA (right s.a 0) (s.a.getLsbD 0) ∧
    onAcc .rolA (left s.a c) (s.a.getLsbD 7) ∧ onAcc .rorA (right s.a c) (s.a.getLsbD 0)

/-! ### Control flow -/

/-- JMP: absolute goes to the operand; the indirect forms read the pointer low byte first, its high byte from
the next address with carry into the page (R290, R142, R146). -/
def Obligations.JumpResult : Prop :=
  ∀ (a : Word) (s : State),
    let via (ptr : Word) (i : Instr) : Prop :=
      let l := memRead ptr s
      let h := memRead (ptr + 1) l.2
      exec i s = .next { h.2 with pc := word h.1 l.1, cyclesRemaining := costOf i s 0 }
    exec (.jmpAbs a) s = .next { s with pc := a, cyclesRemaining := costOf (.jmpAbs a) s 0 } ∧
    via a (.jmpInd a) ∧ via (a + zext16 s.x) (.jmpAbsIndX a)

/-- JSR pushes the address of its last byte, high byte first; RTS pulls two bytes and goes one byte past; RTS
after JSR comes back to the instruction after the JSR with `SP` as it was (R291, R292). -/
def Obligations.CallReturnResult : Prop :=
  (Instr.rts.encode = [0x60#8] ∧ ∀ t : Word, (Instr.jsr t).encode = [0x20#8, lo t, hi t]) ∧
  ∀ (a : Word) (s : State),
    let ret := s.pc - 1
    let at1 := 0x0100 + s.sp.toNat
    let at2 := 0x0100 + (s.sp - 1).toNat
    exec (.jsr a) s = .next { s with
      ram := Memory.write (Memory.write s.ram at1 (hi ret)) at2 (lo ret)
      sp := s.sp - 2
      pc := a
      cyclesRemaining := costOf (.jsr a) s 0 } ∧
    (∀ (t : State) (b : Word), exec (.jsr a) s = .next t → plainAt b s → b.toNat ≠ at1 →
      b.toNat ≠ at2 → byteAt b t = byteAt b s) ∧
    exec .rts s = .next { s with
      sp := s.sp + 2
      pc := word (Memory.read s.ram (0x0100 + (s.sp + 2).toNat))
        (Memory.read s.ram (0x0100 + (s.sp + 1).toNat)) + 1
      cyclesRemaining := costOf .rts s 0 } ∧
    (∀ t u : State, Memory.wf s.ram = true → exec (.jsr a) s = .next t → exec .rts t = .next u →
      u.pc = s.pc ∧ u.sp = s.sp ∧ u.a = s.a ∧ u.x = s.x ∧ u.y = s.y ∧ u.p = s.p)

/-- Every branch: the target is the next instruction's address plus the signed offset when the condition
holds; the cost has the branch penalty (R293 to R302). -/
def Obligations.BranchResult : Prop :=
  ∀ (d : Byte) (s : State),
    let target : Word := s.pc + d.signExtend 16
    let goes (i : Instr) (cond : Bool) : Prop := exec i s = .next { s with
      pc := if cond then target else s.pc
      cyclesRemaining := costOf i s
        (if cond then (if hi target = hi s.pc then 1 else 2) else 0) }
    goes (.bcc d) (!s.flag .c) ∧ goes (.bcs d) (s.flag .c) ∧ goes (.bne d) (!s.flag .z) ∧
    goes (.beq d) (s.flag .z) ∧ goes (.bpl d) (!s.flag .n) ∧ goes (.bmi d) (s.flag .n) ∧
    goes (.bvc d) (!s.flag .v) ∧ goes (.bvs d) (s.flag .v) ∧ goes (.bra d) true

/-! ### Flags, no-operations, traps -/

/-- The flag instructions write the one flag they name (R320 to R326); NOP and the 78 undefined opcodes
change nothing but the cycle counter, and an undefined opcode costs one cycle (R327, R330, R153). -/
def Obligations.FlagAndNoOperationResult : Prop :=
  ([Instr.clc, .sec, .cli, .sei, .cld, .sed, .clv, .nop].map Instr.encode =
      [[0x18#8], [0x38#8], [0x58#8], [0x78#8], [0xD8#8], [0xF8#8], [0xB8#8], [0xEA#8]]) ∧
  ∀ (s : State),
    let writes (i : Instr) (g : Flag) (on : Bool) : Prop := ∃ q,
      exec i s = .next { s with p := q, cyclesRemaining := costOf i s 0 } ∧
      getFlag g q = on ∧ ∀ f : Flag, f ≠ g → getFlag f q = s.flag f
    writes .clc .c false ∧ writes .sec .c true ∧ writes .cli .i false ∧ writes .sei .i true ∧
    writes .cld .d false ∧ writes .sed .d true ∧ writes .clv .v false ∧
    exec .nop s = .next { s with cyclesRemaining := costOf .nop s 0 } ∧
    ∀ i ∈ undefinedInstrs, exec i s = .next { s with cyclesRemaining := costOf i s 0 } ∧
      (ParamsOk s → costOf i s 0 = 1)

/-- The trap entry saves `PC` and the status in three bytes of the stack, `I` already set in the pushed
status, `B` as the event says; `D` stays; `PC` comes from the vector. An IRQ pulse is lost when `I` is set,
else it enters through `0xFFFE` with `B = 0` and adds 7 cycles; an NMI pulse always enters through `0xFFFA`
(R611, R613, R614). -/
def Obligations.TrapEntry : Prop :=
  ∀ (s : State),
    let p' := s.p ||| 0x04#8
    let entered (v : Word) (b : Bool) : State := { s with
      ram := Memory.write (Memory.write (Memory.write s.ram (0x0100 + s.sp.toNat) (hi s.pc))
        (0x0100 + (s.sp - 1).toNat) (lo s.pc)) (0x0100 + (s.sp - 2).toNat)
        ((p' &&& 0xCF#8) ||| 0x20#8 ||| (if b then 0x10#8 else 0x00#8))
      sp := s.sp - 3
      p := p'
      pc := vectorWord v s }
    let pulsed (v : Word) : State :=
      { entered v false with cyclesRemaining := s.cyclesRemaining + 7 }
    (∀ b, trapEnter 0xFFFE#16 b s = entered 0xFFFE#16 b) ∧
    trapEnter 0xFFFA#16 false s = entered 0xFFFA#16 false ∧
    (s.flag .i = true → irqPulse s = s) ∧ (s.flag .i = false → irqPulse s = pulsed 0xFFFE#16) ∧
    nmiPulse s = pulsed 0xFFFA#16

/-- BRK skips the padding byte and takes the trap entry with `B = 1` through the IRQ vector, at a cost of 7
cycles, whatever `I` is (R328, R612). -/
def Obligations.BreakResult : Prop :=
  ∀ (s : State),
    exec .brk s = .next { trapEnter 0xFFFE#16 true { s with pc := s.pc + 1 } with
      cyclesRemaining := costOf .brk s 0 } ∧
    (ParamsOk s → costOf .brk s 0 = 7) ∧
    (∀ (t : State) (b : Word), exec .brk s = .next t → plainAt b s →
      b.toNat ≠ 0x0100 + s.sp.toNat → b.toNat ≠ 0x0100 + (s.sp - 1).toNat →
      b.toNat ≠ 0x0100 + (s.sp - 2).toNat → byteAt b t = byteAt b s)

/-- RTI pulls the status, bits 4 and 5 ignored, then `PC` low, then `PC` high, and continues there (R329). -/
def Obligations.ReturnFromTrapResult : Prop :=
  ∀ (s : State),
    exec .rti s = .next { s with
      p := (Memory.read s.ram (0x0100 + (s.sp + 1).toNat) &&& 0xCF#8) ||| 0x20#8
      pc := word (Memory.read s.ram (0x0100 + (s.sp + 3).toNat))
        (Memory.read s.ram (0x0100 + (s.sp + 2).toNat))
      sp := s.sp + 3
      cyclesRemaining := costOf .rti s 0 }

/-- The return undoes the entry: `PC` and `SP` are as before, the status comes back with `I` set (R630,
R631). Two IRQ pulses: the second is lost; NMI then IRQ: the IRQ is lost; IRQ then NMI: the NMI entry nests
on the IRQ entry and returns to the IRQ handler's first instruction (R625 a, b, c). -/
def Obligations.EntriesAndReturns : Prop :=
  ∀ (s : State), Memory.wf s.ram = true →
    (∀ (v : Word) (b : Bool), v = 0xFFFA#16 ∨ v = 0xFFFE#16 →
      let t := trapReturn (trapEnter v b s)
      t.pc = s.pc ∧ t.sp = s.sp ∧ t.flag .i = true ∧ t.flag .b = false ∧ t.flag .u = true ∧
      t.a = s.a ∧ t.x = s.x ∧ t.y = s.y ∧
      ∀ f : Flag, f ≠ .i → f ≠ .b → f ≠ .u → t.flag f = s.flag f) ∧
    deliverAll [.irq, .irq] s = deliverAll [.irq] s ∧
    deliverAll [.nmi, .irq] s = deliverAll [.nmi] s ∧
    (s.flag .i = false →
      let t := deliverAll [.irq, .nmi] s
      t.pc = vectorWord 0xFFFA#16 s ∧ t.sp = s.sp - 6 ∧
      t.cyclesRemaining = s.cyclesRemaining + 14 ∧
      (trapReturn t).pc = vectorWord 0xFFFE#16 s ∧ (trapReturn t).sp = s.sp - 3)

/-! ### Every step -/

/-- The CPU cannot fail: every instruction of the opcode map and every step of the machine goes on (R117,
R615), and an instruction costs at least one cycle (R160). -/
def Obligations.EveryStepGoesOn : Prop :=
  (∀ (i : Instr) (s : State), ParamsOk s → ∃ t, exec i s = .next t ∧ 1 ≤ t.cyclesRemaining) ∧
  ∀ s : State, ∃ t, step s = .next t

/-- The cycle counter: a step adds exactly one, and `Step()` returns the number of cycles it added and ends
between instructions (R27, R114). -/
def Obligations.CycleCounts : Prop :=
  (∀ s t : State, s.resetRequest = none → step s = .next t → t.cyclesTotal = s.cyclesTotal + 1) ∧
  ∀ s : State, ∃ n t, cpuStep s = .next (n, t) ∧ t.cyclesTotal = s.cyclesTotal + n ∧
    t.cyclesRemaining = 0 ∧ s.cyclesRemaining < n

/-- `P.B = 0` and `P.U = 1` are kept by every step (R25). -/
def Obligations.StepKeepsStatus : Prop :=
  ∀ s t : State, StatusOk s → step s = .next t → StatusOk t

/-- The canonical form of RAM, ROM, Cart and VRAM is kept by every step (the model's form, log entry 14;
R30 to R33). -/
def Obligations.StepKeepsStores : Prop :=
  ∀ s t : State, StoresOk s → step s = .next t → StoresOk t

/-- No step changes ROM, Cart or the parameters (R31, R32), and every step keeps the scheduler's count below
`TICK_INTERVAL` with no pulse waiting (R34, R28). -/
def Obligations.StepKeepsConfiguration : Prop :=
  ∀ s t : State, step s = .next t →
    t.rom = s.rom ∧ t.cart = s.cart ∧ t.params = s.params ∧ (SchedOk s → SchedOk t)

/-- The scanline counter and the pacing accumulator stay in their ranges and the picture in its form (R41,
R42, R370). The form of the picture is the model's (log entry 15). -/
def Obligations.StepKeepsVideo : Prop :=
  ∀ s t : State, Vdp.Ok s.params s.vdp → step s = .next t → Vdp.Ok t.params t.vdp

/-- No LFSR becomes zero, the sample pacer stays below `SID_CLOCK_HZ`, every sample stays in `[-1, +1]`
(R47, R51, R443, R482, R490). -/
def Obligations.StepKeepsSound : Prop :=
  ∀ s t : State, ParamsOk s → Sound.Ok s.params s.snd → step s = .next t → Sound.Ok t.params t.snd

/-- The VIA's control lines follow PCR, the SR flag is never set, a halted timer stands at 0, and the
attachment lists keep their size and order (R511, R532, R535, R552, R561). -/
def Obligations.StepKeepsVia : Prop :=
  ∀ s t : State, Via.Ok s.via → step s = .next t → Via.Ok t.via

/-- The state right after reset meets every invariant (R75, R672); its parameters and images are those of log
entries 1 and 2. -/
def Obligations.ResetMeetsInvariants : Prop :=
  StatusOk State.reset ∧ StoresOk State.reset ∧ SchedOk State.reset ∧ ParamsOk State.reset ∧
  Vdp.Ok State.reset.params State.reset.vdp ∧ Sound.Ok State.reset.params State.reset.snd ∧
  Via.Ok State.reset.via

/-- A machine reset, cold or warm, leaves every piece of state at its reset value; a warm reset keeps RAM,
VRAM, the picture and the record of samples; ROM, Cart, parameters and the environment's lists stay (R670
to R673, R75). That these lists and the record of calls stay, and the order
of the calls to the attachments, is the model's choice (log entries 27, 28, 36). -/
def Obligations.ResetResult : Prop :=
  ∀ (k : ResetKind) (s : State),
    let kept (α : Type) (old cold : α) : α := match k with
      | .cold => cold
      | .warm => old
    let lists (c : AttachCall) : List Notice := callAll .a s.via.portA c ++ callAll .b s.via.portB c
    machineReset k s = { s with
      a := 0, x := 0, y := 0, sp := 0xFD, p := 0x20, pc := vectorWord 0xFFFC#16 s
      cyclesRemaining := 7, cyclesTotal := 0, schedAcc := 0
      ram := kept Memory s.ram []
      vdp := { Vdp.cold with
        vram := kept Memory s.vdp.vram []
        frame := kept Frame s.vdp.frame ⟨black, []⟩
        linesDrawn := s.vdp.linesDrawn }
      snd := { Sound.cold with out := kept (List Rat) s.snd.out [] }
      via := { Via.cold with
        portA := s.via.portA
        portB := s.via.portB
        drawn := s.via.drawn
        notices := s.via.notices ++ lists .reset ++ lists (.updateControlLines true true true true) }
      posted := []
      frameReady := false
      resetRequest := none }

/-! ### The VIA -/

/-- T1 loaded with `N` sets its flag on the `N`-th tick and not before; in free-run it comes back to 0 after
`T1L + 1` further ticks (R532). -/
def Obligations.TimerExpiry : Prop :=
  ∀ (n : Nat) (v : Via),
    (1 ≤ n → v.t1c.toNat = n → v.t1Running = true → v.t1ReloadPending = false →
      (∀ k, k < n → (Via.stepT1^[k] v).ifr = v.ifr ∧ (Via.stepT1^[k] v).t1c.toNat = n - k) ∧
      (Via.stepT1^[n] v).ifr.getLsbD 6 = true ∧ (Via.stepT1^[n] v).t1c = 0 ∧
      (Via.stepT1^[n] v).t1Running = v.acr.getLsbD 6 ∧
      (Via.stepT1^[n] v).t1ReloadPending = v.acr.getLsbD 6 ∧
      (Via.stepT1^[n] v).orb.getLsbD 7 = (v.orb.getLsbD 7 ^^ v.acr.getLsbD 7)) ∧
    (1 ≤ n → v.t1l.toNat = n → v.t1Running = true → v.t1ReloadPending = true →
      v.acr.getLsbD 6 = true →
      (Via.stepT1^[n + 1] v).t1c = 0 ∧ (Via.stepT1^[n + 1] v).ifr.getLsbD 6 = true ∧
      (Via.stepT1^[n + 1] v).t1ReloadPending = true)

/-- The IRQ output: a tick or a register write emits one pulse exactly when `IFR & IER` has a bit set that
was clear before it (R548). -/
def Obligations.PulseWhenGained : Prop :=
  ∀ (v : Via) (n : BitVec 4) (x : Byte),
    (v.tick.1 = true ↔ ∃ k, v.tick.2.act.getLsbD k = true ∧ v.act.getLsbD k = false) ∧
    ((v.writeReg n x).1 = true ↔
      ∃ k, (v.writeReg n x).2.act.getLsbD k = true ∧ v.act.getLsbD k = false)

/-- The VIA's registers by offset: what a read returns and which flag it clears, what a write stores, loads
and starts; IFR with its computed master bit, IER with its set and clear forms (R510, R511, R524, R531,
R533, R535, R545, R546, R547). -/
def Obligations.ViaRegisters : Prop :=
  ∀ (v : Via) (x : Byte),
    let without (k : Nat) : BitVec 7 := v.ifr &&& ~~~(1#7 <<< k)
    let after (n : BitVec 4) : Via := (v.writeReg n x).2
    let ifrRead := v.readReg 13#4
    let ierRead := v.readReg 14#4
    (v.readReg 2#4 = (v.ddrb, v) ∧ v.readReg 3#4 = (v.ddra, v) ∧
      v.readReg 4#4 = (lo v.t1c, { v with ifr := without 6 }) ∧ v.readReg 5#4 = (hi v.t1c, v) ∧
      v.readReg 6#4 = (lo v.t1l, v) ∧ v.readReg 7#4 = (hi v.t1l, v) ∧
      v.readReg 8#4 = (lo v.t2c, { v with ifr := without 5 }) ∧ v.readReg 9#4 = (hi v.t2c, v) ∧
      v.readReg 10#4 = (v.sr, v) ∧ v.readReg 11#4 = (v.acr, v) ∧ v.readReg 12#4 = (v.pcr, v)) ∧
    (after 2#4 = { v with ddrb := x } ∧ after 3#4 = { v with ddra := x } ∧
      after 4#4 = { v with t1l := word (hi v.t1l) x } ∧ after 6#4 = after 4#4 ∧
      after 7#4 = { v with t1l := word x (lo v.t1l) } ∧
      after 5#4 = { v with
        t1l := word x (lo v.t1l), t1c := word x (lo v.t1l), t1Running := true
        t1ReloadPending := false, ifr := without 6 } ∧
      after 8#4 = { v with t2l := x } ∧
      after 9#4 = { v with t2c := word x v.t2l, t2Running := true, ifr := without 5 } ∧
      after 10#4 = { v with sr := x } ∧ after 11#4 = { v with acr := x } ∧ (after 12#4).pcr = x) ∧
    (ifrRead.2 = v ∧ (∀ k, k < 7 → ifrRead.1.getLsbD k = v.ifr.getLsbD k) ∧
      (ifrRead.1.getLsbD 7 = true ↔ ∃ k, v.ifr.getLsbD k = true ∧ v.ier.getLsbD k = true) ∧
      after 13#4 = { v with ifr := (after 13#4).ifr } ∧
      ∀ k, k < 7 → (after 13#4).ifr.getLsbD k = (v.ifr.getLsbD k && !x.getLsbD k)) ∧
    (ierRead.2 = v ∧ (∀ k, k < 7 → ierRead.1.getLsbD k = v.ier.getLsbD k) ∧
      ierRead.1.getLsbD 7 = true ∧ after 14#4 = { v with ier := (after 14#4).ier } ∧
      ∀ k, k < 7 → (after 14#4).ier.getLsbD k =
        (if x.getLsbD k then x.getLsbD 7 else v.ier.getLsbD k))

/-- A port read: an output bit gives the output register; an input bit gives the AND of what every enabled
attachment of the port's list answers (R520, R521). That answers come from lists is the model's choice (log
entry 9). -/
def Obligations.PortRead : Prop :=
  ∀ (p : Port) (v : Via),
    (∀ t ∈ v.list p, t.enabled ≠ [] ∧ t.reads ≠ []) →
    ∀ k, k < 8 → (v.readPort p).1.getLsbD k =
      if (v.ddrReg p).getLsbD k then (v.orReg p).getLsbD k
      else (v.list p).all fun t => !(t.enabled.headD false) || (t.reads.headD 0xFF#8).getLsbD k

/-! ### The video card -/

/-- The two ports of the video card at every address of its window: data read and write with the address
pointer's increment, status read, and the two-stage control latch (R350, R363 to R366); a byte written to
VRAM is read back (R367). -/
def Obligations.VideoPorts : Prop :=
  ∀ (a : Word) (x : Byte) (s : State), 0x9C00 ≤ a.toNat → a.toNat < 0xA000 →
    let d := s.vdp
    (a.toNat % 2 = 0 →
      memRead a s = (d.readbuf, { s with vdp := { d with
        readbuf := Memory.read d.vram d.addr.toNat, addr := d.addr + 1, latched := false } }) ∧
      memWrite a x s = { s with vdp := { d with
        vram := Memory.write d.vram d.addr.toNat x, readbuf := x, addr := d.addr + 1
        latched := false } }) ∧
    (a.toNat % 2 = 1 →
      memRead a s = (d.status, { s with vdp := { d with status := 0, latched := false } }) ∧
      (d.latched = false → memWrite a x s = { s with vdp := { d with latchByte := x, latched := true } }) ∧
      (d.latched = true → x.getLsbD 7 = true → memWrite a x s = { s with vdp := { d with
        latched := false, regs := d.regs.set (x.extractLsb' 0 3) d.latchByte } }) ∧
      (d.latched = true → x.getLsbD 7 = false → x.getLsbD 6 = true →
        memWrite a x s = { s with vdp := { d with
          latched := false, addr := x.extractLsb' 0 6 ++ d.latchByte } }) ∧
      (d.latched = true → x.getLsbD 7 = false → x.getLsbD 6 = false →
        let at0 : BitVec 14 := x.extractLsb' 0 6 ++ d.latchByte
        memWrite a x s = { s with vdp := { d with
          latched := false, addr := at0 + 1, readbuf := Memory.read d.vram at0.toNat } })) ∧
    (∀ (at0 : BitVec 14), d.latched = false → Memory.wf d.vram = true →
      let low : Byte := at0.extractLsb' 0 8
      let high : Byte := (at0.extractLsb' 8 6).setWidth 8
      let written := (((d.writeControl low).writeControl (high ||| 0x40#8)).writeData x)
      ((written.writeControl low).writeControl high).readData.1 = x ∧
      ((written.writeControl low).writeControl (high ||| 0x40#8)).readData.2.readData.1 = x)

/-- Line 191 emits a pulse and sets status bit 7 exactly when `IE` is set; no other line emits one; line 0
clears the status and fills the whole buffer with the backdrop; with the display disabled every pixel of a
line is the backdrop and no status flag is set; the registers and VRAM stay (R380, R381, R387, R389). -/
def Obligations.ScanlineRules : Prop :=
  ∀ (p : Params) (n : Nat) (d : Vdp) (x y : Nat),
    let back := paletteColour p d.regs.backdrop
    let r := d.processScanline p n
    (r.1 = true ↔ n = 191 ∧ d.regs.ie = true) ∧
    (n = 191 → d.regs.ie = true → r.2.status.getLsbD 7 = true) ∧
    ((n ≠ 0 ∧ (n ≠ 191 ∨ d.regs.ie = false)) → r.2.status.getLsbD 7 = d.status.getLsbD 7) ∧
    r.2.regs = d.regs ∧ r.2.vram = d.vram ∧ r.2.addr = d.addr ∧ r.2.readbuf = d.readbuf ∧
    (n = 0 → r.2.status.getLsbD 7 = false ∧
      (¬(32 ≤ x ∧ x < 288 ∧ y = 24) → r.2.frame.pixel x y = back)) ∧
    (192 ≤ n → r.2 = d) ∧
    (d.regs.displayOn = false →
      (d.frame.wf = true → x < 256 → n < 192 → r.2.frame.pixel (32 + x) (24 + n) = back) ∧
      (n ≠ 0 → n ≠ 191 → r.2.status = d.status) ∧ (n = 0 → r.2.status = 0))

/-- A Graphics I pixel of a line without sprites: bit `7 - x % 8` of the tile's pattern byte chooses the
colour byte's high or low nibble, and index 0 shows the backdrop (R383, R388). `Frame.wf` is
the model's form of a picture, kept by every step (log entry 15). -/
def Obligations.Graphics1Pixel : Prop :=
  ∀ (p : Params) (d : Vdp) (x y : Nat), x < 256 → y < 192 →
    d.frame.wf = true → d.regs.displayOn = true → d.regs.mode = .graphics1 →
    d.spriteAttr 0 0 = 0xD0#8 →
    let name := (d.vramAt (d.regs.nameBase + (y / 8) * 32 + x / 8)).toNat
    let pat := d.vramAt (d.regs.patternBase + name * 8 + y % 8)
    let c := d.vramAt (d.regs.colorBase + name / 8)
    let i : BitVec 4 := if pat.getLsbD (7 - x % 8) then c.extractLsb' 4 4 else c.extractLsb' 0 4
    (d.processScanline p y).2.frame.pixel (32 + x) (24 + y) =
      paletteColour p (if i = 0 then d.regs.backdrop else i)

/-- What sprites do to the status on an active line with sprites shown: the flag of a fifth sprite and its
index, once set, stay; else five entries that meet the line, none before them a sentinel, set the flag and
the index 4, and a sentinel in the first entry sets the index 0; a collision flag, once set, stays (R391 to
R393, R398 to R400). -/
def Obligations.SpriteFlags : Prop :=
  ∀ (p : Params) (d : Vdp) (y : Nat), y < 192 →
    d.regs.displayOn = true → d.regs.mode ≠ .text →
    let before : Byte := if y = 0 then 0 else d.status
    let after := (d.processScanline p y).2.status
    let top (n : Nat) : Int := spriteY (d.spriteAttr n 0)
    let meets (n : Nat) : Prop := d.spriteAttr n 0 ≠ 0xD0#8 ∧ top n ≤ (y : Int) ∧
      (y : Int) < top n + ((d.regs.spriteSize * (1 + d.regs.mag) : Nat) : Int)
    (before.getLsbD 6 = true → after &&& 0x5F#8 = before &&& 0x5F#8) ∧
    (before.getLsbD 6 = false →
      ((∀ n, n < 5 → meets n) → after &&& 0x5F#8 = 0x44#8) ∧
      (d.spriteAttr 0 0 = 0xD0#8 → after &&& 0x5F#8 = 0x00#8)) ∧
    (before.getLsbD 5 = true → after.getLsbD 5 = true)

/-! ### The sound card -/

/-- Reads of the sound window: the two paddle registers, voice 3's waveform and envelope, 0 everywhere else;
no read changes anything (R430, R432). -/
def Obligations.SoundReads : Prop :=
  ∀ (a : Word) (s : State), 0x9800 ≤ a.toNat → a.toNat < 0x9C00 →
    memRead a s = ((if a.toNat % 32 = 25 then s.snd.potx
      else if a.toNat % 32 = 26 then s.snd.poty
      else if a.toNat % 32 = 27 then ((s.snd.v2.wave (s.snd.v1.acc.getLsbD 23)) >>> 4).setWidth 8
      else if a.toNat % 32 = 28 then s.snd.v2.env
      else 0), s)

/-- The envelope: a gate edge up starts Attack with its counters at 0, a gate edge down starts Release, and
neither changes the level (R433); outside Sustain a SID cycle changes the level by at most one, and in
Release it never rises (R465); Decay ends in Sustain exactly when the level is down to the table's entry for
the sustain nibble, and in Sustain the level is that entry (R461), which is the nibble times `0x11` (R464). -/
def Obligations.EnvelopeRules : Prop :=
  ∀ (p : Params) (v : Voice) (x : Byte),
    let level := p.sustainLevel.getD (v.sr.toNat / 16) 0
    (v.ctrl.getLsbD 0 = false → x.getLsbD 0 = true →
      v.writeCtrl x = { v with ctrl := x, envState := .attack, rateCnt := 0, expCnt := 0 }) ∧
    (v.ctrl.getLsbD 0 = true → x.getLsbD 0 = false →
      v.writeCtrl x = { v with ctrl := x, envState := .release }) ∧
    (v.ctrl.getLsbD 0 = x.getLsbD 0 → v.writeCtrl x = { v with ctrl := x }) ∧
    (v.envState ≠ .sustain →
      (v.envCycle p).env.toNat ≤ v.env.toNat + 1 ∧ v.env.toNat ≤ (v.envCycle p).env.toNat + 1) ∧
    (v.envState = .release → (v.envCycle p).env.toNat ≤ v.env.toNat ∧ (v.envCycle p).envState = .release) ∧
    (v.envState = .decay → ((v.envCycle p).envState = .sustain ↔ (v.envCycle p).env ≤ level) ∧
      ((v.envCycle p).envState = .sustain ∨ (v.envCycle p).envState = .decay)) ∧
    (v.envState = .sustain → v.envCycle p = { v with env := level }) ∧
    (p.wf = true → level.toNat = (v.sr.toNat / 16) * 0x11)

/-- The sample pacer and one sample: below `SID_CLOCK_HZ` only the pacer moves; else the filter is updated,
HP first, then BP with the new HP, then LP with the new BP, and one sample is appended, clamped to
`[-1, +1]` (R480, R482, R490). Real numbers are rationals here (log entry 13). -/
def Obligations.SampleRule : Prop :=
  ∀ (p : Params) (c : Sound),
    let acc := c.sampleAcc + p.sampleRateHz
    let hp := c.filterIn - c.lp - c.bp * (1 - ((c.resFilt.toNat / 16 : Nat) : Rat) / 17)
    let bp := c.bp + c.w0 p * hp
    let lp := c.lp + c.w0 p * bp
    let picked (k : Nat) (x : Rat) : Rat := if c.modeVol.getLsbD k then x else 0
    let total := (picked 4 lp + picked 5 bp + picked 6 hp + c.directSum) *
      (((c.modeVol.toNat % 16 : Nat) : Rat) / 15) / 4096
    (acc < p.sidClockHz → c.samplePace p = { c with sampleAcc := acc }) ∧
    (p.sidClockHz ≤ acc → c.samplePace p = { c with
      sampleAcc := acc - p.sidClockHz, hp := hp, bp := bp, lp := lp
      out := c.out ++ [max (-1) (min 1 total)] })

/-- Nothing the CPU can read of the sound card depends on its real-number part: cards that agree on the
voices and the paddles still agree after any number of ticks (R493). -/
def Obligations.SoundNoninterference : Prop :=
  ∀ (p : Params) (n : Nat) (c c' : Sound) (r : BitVec 5),
    c.v0 = c'.v0 → c.v1 = c'.v1 → c.v2 = c'.v2 → c.potx = c'.potx → c.poty = c'.poty →
    ((Sound.tick p)^[n] c).readReg r = ((Sound.tick p)^[n] c').readReg r
end

