-- ==== Sys2Proof/Laws/Memory.lean ====
section
/-! SUPPORT. The laws of sparse stores and byte stores: what a write changes, and that every operation
keeps the canonical form. -/

namespace Sys2Proof.Machine

/-! ### Sparse stores -/

theorem sparseFind_insert_self {α : Type} (l : List (Nat × α)) (k : Nat) (v : α) :
    sparseFind (sparseInsert l k v) k = some v := by
  induction l with
  | nil => simp [sparseInsert, sparseFind]
  | cons h t ih =>
    unfold sparseInsert
    split
    · simp [sparseFind]
    · split
      · simp [sparseFind]
      · simp_all [sparseFind]

theorem sparseFind_insert_ne {α : Type} (l : List (Nat × α)) {k j : Nat} (v : α) (h : j ≠ k) :
    sparseFind (sparseInsert l k v) j = sparseFind l j := by
  induction l with
  | nil => simp [sparseInsert, sparseFind, h]
  | cons e t ih =>
    unfold sparseInsert
    split
    · next heq => subst heq; simp [sparseFind, h]
    · split
      · simp [sparseFind, h]
      · simp [sparseFind, ih]

/-- Below the first key nothing is listed. -/
theorem sparseFind_below {α : Type} {l : List (Nat × α)} {low k : Nat} (h : sparseSortedFrom low l = true)
    (hk : k < low) : sparseFind l k = none := by
  induction l generalizing low with
  | nil => rfl
  | cons e t ih =>
    simp only [sparseSortedFrom, Bool.and_eq_true, decide_eq_true_eq] at h
    have : k ≠ e.1 := by omega
    simp [sparseFind, this, ih h.2 (by omega)]

theorem sparseFind_erase_ne {α : Type} (l : List (Nat × α)) {k j : Nat} (h : j ≠ k) :
    sparseFind (sparseErase l k) j = sparseFind l j := by
  induction l with
  | nil => rfl
  | cons e t ih =>
    unfold sparseErase
    split
    · next heq => subst heq; simp [sparseFind, h]
    · simp [sparseFind, ih]

theorem sparseFind_erase_self {α : Type} {l : List (Nat × α)} {low : Nat}
    (h : sparseSortedFrom low l = true) (k : Nat) : sparseFind (sparseErase l k) k = none := by
  induction l generalizing low with
  | nil => rfl
  | cons e t ih =>
    simp only [sparseSortedFrom, Bool.and_eq_true, decide_eq_true_eq] at h
    unfold sparseErase
    split
    · next heq => subst heq; exact sparseFind_below h.2 (by omega)
    · next hne => simp [sparseFind, hne, ih h.2]

theorem sparseSortedFrom_weaken {α : Type} {l : List (Nat × α)} {low low' : Nat}
    (h : sparseSortedFrom low l = true) (hl : low' ≤ low) : sparseSortedFrom low' l = true := by
  cases l with
  | nil => rfl
  | cons e t =>
    simp only [sparseSortedFrom, Bool.and_eq_true, decide_eq_true_eq] at h ⊢
    exact ⟨by omega, h.2⟩

theorem sparseSortedFrom_insert {α : Type} {l : List (Nat × α)} {low k : Nat} (v : α)
    (h : sparseSortedFrom low l = true) (hk : low ≤ k) :
    sparseSortedFrom low (sparseInsert l k v) = true := by
  induction l generalizing low with
  | nil => simp [sparseInsert, sparseSortedFrom, hk]
  | cons e t ih =>
    simp only [sparseSortedFrom, Bool.and_eq_true, decide_eq_true_eq] at h
    unfold sparseInsert
    split
    · next heq => subst heq; simp [sparseSortedFrom, hk, h.2]
    · split
      · simp only [sparseSortedFrom, Bool.and_eq_true, decide_eq_true_eq]
        exact ⟨hk, by omega, h.2⟩
      · simp only [sparseSortedFrom, Bool.and_eq_true, decide_eq_true_eq]
        exact ⟨h.1, ih h.2 (by omega)⟩

theorem sparseSortedFrom_erase {α : Type} {l : List (Nat × α)} {low : Nat} (k : Nat)
    (h : sparseSortedFrom low l = true) : sparseSortedFrom low (sparseErase l k) = true := by
  induction l generalizing low with
  | nil => rfl
  | cons e t ih =>
    simp only [sparseSortedFrom, Bool.and_eq_true, decide_eq_true_eq] at h
    unfold sparseErase
    split
    · exact sparseSortedFrom_weaken h.2 (by omega)
    · simp only [sparseSortedFrom, Bool.and_eq_true, decide_eq_true_eq]
      exact ⟨h.1, ih h.2⟩

/-- An entry after an insertion is the new one or an old one. -/
theorem mem_sparseInsert {α : Type} {l : List (Nat × α)} {k : Nat} {v : α} {e : Nat × α}
    (h : e ∈ sparseInsert l k v) : e = (k, v) ∨ e ∈ l := by
  induction l with
  | nil => simpa [sparseInsert] using h
  | cons d t ih =>
    unfold sparseInsert at h
    split at h
    · simp only [List.mem_cons] at h ⊢; tauto
    · split at h
      · simp only [List.mem_cons] at h ⊢; tauto
      · simp only [List.mem_cons] at h ⊢; tauto

/-- An entry after an erasure is an old one. -/
theorem mem_sparseErase {α : Type} {l : List (Nat × α)} {k : Nat} {e : Nat × α}
    (h : e ∈ sparseErase l k) : e ∈ l := by
  induction l with
  | nil => simp [sparseErase] at h
  | cons d t ih =>
    unfold sparseErase at h
    split at h
    · exact List.mem_cons_of_mem _ h
    · simp only [List.mem_cons] at h ⊢; tauto

/-! ### Byte stores -/

/-- The canonical form, spelt out. -/
theorem Memory.wf_iff (m : Memory) :
    Memory.wf m = true ↔ sparseSortedFrom 0 m = true ∧ ∀ c ∈ m, c.2 ≠ Memory.blank := by
  simp [Memory.wf]

/-- The bounded canonical form, spelt out. -/
theorem Memory.wfBelow_iff (n : Nat) (m : Memory) :
    Memory.wfBelow n m = true ↔ Memory.wf m = true ∧ ∀ c ∈ m, c.1 < n := by
  simp [Memory.wfBelow]

/-- A read of the written address gives the written byte. -/
theorem Memory.read_write_self {m : Memory} (h : Memory.wf m = true) (a : Nat) (v : Byte) :
    Memory.read (Memory.write m a v) a = v := by
  unfold Memory.read Memory.write
  split
  · next hv => rw [sparseFind_erase_self ((Memory.wf_iff m).1 h).1]; simp [hv]
  · rw [sparseFind_insert_self]; rfl

/-- A read of another address gives what it gave. -/
theorem Memory.read_write_ne (m : Memory) {a b : Nat} (v : Byte) (h : b ≠ a) :
    Memory.read (Memory.write m a v) b = Memory.read m b := by
  unfold Memory.read Memory.write
  split
  · rw [sparseFind_erase_ne _ h]
  · rw [sparseFind_insert_ne _ _ h]

/-- A write keeps the canonical form. -/
theorem Memory.wf_write {m : Memory} (h : Memory.wf m = true) (a : Nat) (v : Byte) :
    Memory.wf (Memory.write m a v) = true := by
  obtain ⟨hs, hb⟩ := (Memory.wf_iff m).1 h
  refine (Memory.wf_iff _).2 ?_
  unfold Memory.write
  split
  · exact ⟨sparseSortedFrom_erase a hs, fun c hc => hb c (mem_sparseErase hc)⟩
  · next hv =>
    refine ⟨sparseSortedFrom_insert v hs (Nat.zero_le a), fun c hc => ?_⟩
    rcases mem_sparseInsert hc with rfl | hc
    · exact hv
    · exact hb c hc

/-- A write inside the store keeps the bounded canonical form. -/
theorem Memory.wfBelow_write {m : Memory} {n a : Nat} (h : Memory.wfBelow n m = true) (ha : a < n)
    (v : Byte) : Memory.wfBelow n (Memory.write m a v) = true := by
  obtain ⟨hw, hb⟩ := (Memory.wfBelow_iff n m).1 h
  refine (Memory.wfBelow_iff n _).2 ⟨Memory.wf_write hw a v, fun c hc => ?_⟩
  unfold Memory.write at hc
  split at hc
  · exact hb c (mem_sparseErase hc)
  · rcases mem_sparseInsert hc with rfl | hc
    · exact ha
    · exact hb c hc

/-- The empty store is in its form, whatever the size. -/
theorem Memory.wfBelow_nil (n : Nat) : Memory.wfBelow n [] = true := rfl

/-- An unlisted store reads as blank everywhere. -/
theorem Memory.read_nil (a : Nat) : Memory.read [] a = Memory.blank := rfl

end Sys2Proof.Machine
end

