-- ==== Sys2Proof/Laws/State.lean ====
section
/-! SUPPORT. One lemma for each field after each update of the state, the VIA and the video card, true by
definition, so that no later proof unfolds a record update. -/

namespace Sys2Proof.Machine

/-! ### `State.setFlag` -/

@[simp] theorem State.setFlag_a (f : Flag) (on : Bool) (s : State) : (s.setFlag f on).a = s.a := rfl
@[simp] theorem State.setFlag_x (f : Flag) (on : Bool) (s : State) : (s.setFlag f on).x = s.x := rfl
@[simp] theorem State.setFlag_y (f : Flag) (on : Bool) (s : State) : (s.setFlag f on).y = s.y := rfl
@[simp] theorem State.setFlag_sp (f : Flag) (on : Bool) (s : State) : (s.setFlag f on).sp = s.sp := rfl
@[simp] theorem State.setFlag_pc (f : Flag) (on : Bool) (s : State) : (s.setFlag f on).pc = s.pc := rfl
@[simp] theorem State.setFlag_p (f : Flag) (on : Bool) (s : State) :
    (s.setFlag f on).p = putFlag f on s.p :=
  rfl
@[simp] theorem State.setFlag_cyclesRemaining (f : Flag) (on : Bool) (s : State) :
    (s.setFlag f on).cyclesRemaining = s.cyclesRemaining :=
  rfl
@[simp] theorem State.setFlag_cyclesTotal (f : Flag) (on : Bool) (s : State) :
    (s.setFlag f on).cyclesTotal = s.cyclesTotal :=
  rfl
@[simp] theorem State.setFlag_ram (f : Flag) (on : Bool) (s : State) : (s.setFlag f on).ram = s.ram := rfl
@[simp] theorem State.setFlag_rom (f : Flag) (on : Bool) (s : State) : (s.setFlag f on).rom = s.rom := rfl
@[simp] theorem State.setFlag_cart (f : Flag) (on : Bool) (s : State) : (s.setFlag f on).cart = s.cart :=
  rfl
@[simp] theorem State.setFlag_schedAcc (f : Flag) (on : Bool) (s : State) :
    (s.setFlag f on).schedAcc = s.schedAcc :=
  rfl
@[simp] theorem State.setFlag_vdp (f : Flag) (on : Bool) (s : State) : (s.setFlag f on).vdp = s.vdp := rfl
@[simp] theorem State.setFlag_snd (f : Flag) (on : Bool) (s : State) : (s.setFlag f on).snd = s.snd := rfl
@[simp] theorem State.setFlag_via (f : Flag) (on : Bool) (s : State) : (s.setFlag f on).via = s.via := rfl
@[simp] theorem State.setFlag_slots (f : Flag) (on : Bool) (s : State) : (s.setFlag f on).slots = s.slots :=
  rfl
@[simp] theorem State.setFlag_params (f : Flag) (on : Bool) (s : State) :
    (s.setFlag f on).params = s.params :=
  rfl
@[simp] theorem State.setFlag_resetRequest (f : Flag) (on : Bool) (s : State) :
    (s.setFlag f on).resetRequest = s.resetRequest :=
  rfl
@[simp] theorem State.setFlag_posted (f : Flag) (on : Bool) (s : State) :
    (s.setFlag f on).posted = s.posted :=
  rfl
@[simp] theorem State.setFlag_frameReady (f : Flag) (on : Bool) (s : State) :
    (s.setFlag f on).frameReady = s.frameReady :=
  rfl
@[simp] theorem State.setFlag_bcdDrawn (f : Flag) (on : Bool) (s : State) :
    (s.setFlag f on).bcdDrawn = s.bcdDrawn :=
  rfl

/-! ### `State.setNZ` -/

@[simp] theorem State.setNZ_a (r : Byte) (s : State) : (s.setNZ r).a = s.a := rfl
@[simp] theorem State.setNZ_x (r : Byte) (s : State) : (s.setNZ r).x = s.x := rfl
@[simp] theorem State.setNZ_y (r : Byte) (s : State) : (s.setNZ r).y = s.y := rfl
@[simp] theorem State.setNZ_sp (r : Byte) (s : State) : (s.setNZ r).sp = s.sp := rfl
@[simp] theorem State.setNZ_pc (r : Byte) (s : State) : (s.setNZ r).pc = s.pc := rfl
@[simp] theorem State.setNZ_p (r : Byte) (s : State) : (s.setNZ r).p = nzBits r s.p := rfl
@[simp] theorem State.setNZ_cyclesRemaining (r : Byte) (s : State) :
    (s.setNZ r).cyclesRemaining = s.cyclesRemaining :=
  rfl
@[simp] theorem State.setNZ_cyclesTotal (r : Byte) (s : State) : (s.setNZ r).cyclesTotal = s.cyclesTotal :=
  rfl
@[simp] theorem State.setNZ_ram (r : Byte) (s : State) : (s.setNZ r).ram = s.ram := rfl
@[simp] theorem State.setNZ_rom (r : Byte) (s : State) : (s.setNZ r).rom = s.rom := rfl
@[simp] theorem State.setNZ_cart (r : Byte) (s : State) : (s.setNZ r).cart = s.cart := rfl
@[simp] theorem State.setNZ_schedAcc (r : Byte) (s : State) : (s.setNZ r).schedAcc = s.schedAcc := rfl
@[simp] theorem State.setNZ_vdp (r : Byte) (s : State) : (s.setNZ r).vdp = s.vdp := rfl
@[simp] theorem State.setNZ_snd (r : Byte) (s : State) : (s.setNZ r).snd = s.snd := rfl
@[simp] theorem State.setNZ_via (r : Byte) (s : State) : (s.setNZ r).via = s.via := rfl
@[simp] theorem State.setNZ_slots (r : Byte) (s : State) : (s.setNZ r).slots = s.slots := rfl
@[simp] theorem State.setNZ_params (r : Byte) (s : State) : (s.setNZ r).params = s.params := rfl
@[simp] theorem State.setNZ_resetRequest (r : Byte) (s : State) :
    (s.setNZ r).resetRequest = s.resetRequest :=
  rfl
@[simp] theorem State.setNZ_posted (r : Byte) (s : State) : (s.setNZ r).posted = s.posted := rfl
@[simp] theorem State.setNZ_frameReady (r : Byte) (s : State) : (s.setNZ r).frameReady = s.frameReady := rfl
@[simp] theorem State.setNZ_bcdDrawn (r : Byte) (s : State) : (s.setNZ r).bcdDrawn = s.bcdDrawn := rfl

/-! ### `State.spend` -/

@[simp] theorem State.spend_a (op : Byte) (n : Nat) (s : State) : (s.spend op n).a = s.a := rfl
@[simp] theorem State.spend_x (op : Byte) (n : Nat) (s : State) : (s.spend op n).x = s.x := rfl
@[simp] theorem State.spend_y (op : Byte) (n : Nat) (s : State) : (s.spend op n).y = s.y := rfl
@[simp] theorem State.spend_sp (op : Byte) (n : Nat) (s : State) : (s.spend op n).sp = s.sp := rfl
@[simp] theorem State.spend_pc (op : Byte) (n : Nat) (s : State) : (s.spend op n).pc = s.pc := rfl
@[simp] theorem State.spend_p (op : Byte) (n : Nat) (s : State) : (s.spend op n).p = s.p := rfl
@[simp] theorem State.spend_cyclesRemaining (op : Byte) (n : Nat) (s : State) :
    (s.spend op n).cyclesRemaining = baseCost s.params op + n :=
  rfl
@[simp] theorem State.spend_cyclesTotal (op : Byte) (n : Nat) (s : State) :
    (s.spend op n).cyclesTotal = s.cyclesTotal :=
  rfl
@[simp] theorem State.spend_ram (op : Byte) (n : Nat) (s : State) : (s.spend op n).ram = s.ram := rfl
@[simp] theorem State.spend_rom (op : Byte) (n : Nat) (s : State) : (s.spend op n).rom = s.rom := rfl
@[simp] theorem State.spend_cart (op : Byte) (n : Nat) (s : State) : (s.spend op n).cart = s.cart := rfl
@[simp] theorem State.spend_schedAcc (op : Byte) (n : Nat) (s : State) :
    (s.spend op n).schedAcc = s.schedAcc :=
  rfl
@[simp] theorem State.spend_vdp (op : Byte) (n : Nat) (s : State) : (s.spend op n).vdp = s.vdp := rfl
@[simp] theorem State.spend_snd (op : Byte) (n : Nat) (s : State) : (s.spend op n).snd = s.snd := rfl
@[simp] theorem State.spend_via (op : Byte) (n : Nat) (s : State) : (s.spend op n).via = s.via := rfl
@[simp] theorem State.spend_slots (op : Byte) (n : Nat) (s : State) : (s.spend op n).slots = s.slots := rfl
@[simp] theorem State.spend_params (op : Byte) (n : Nat) (s : State) : (s.spend op n).params = s.params :=
  rfl
@[simp] theorem State.spend_resetRequest (op : Byte) (n : Nat) (s : State) :
    (s.spend op n).resetRequest = s.resetRequest :=
  rfl
@[simp] theorem State.spend_posted (op : Byte) (n : Nat) (s : State) : (s.spend op n).posted = s.posted :=
  rfl
@[simp] theorem State.spend_frameReady (op : Byte) (n : Nat) (s : State) :
    (s.spend op n).frameReady = s.frameReady :=
  rfl
@[simp] theorem State.spend_bcdDrawn (op : Byte) (n : Nat) (s : State) :
    (s.spend op n).bcdDrawn = s.bcdDrawn :=
  rfl

/-! ### `State.addCycles` -/

@[simp] theorem State.addCycles_a (n : Nat) (s : State) : (s.addCycles n).a = s.a := rfl
@[simp] theorem State.addCycles_x (n : Nat) (s : State) : (s.addCycles n).x = s.x := rfl
@[simp] theorem State.addCycles_y (n : Nat) (s : State) : (s.addCycles n).y = s.y := rfl
@[simp] theorem State.addCycles_sp (n : Nat) (s : State) : (s.addCycles n).sp = s.sp := rfl
@[simp] theorem State.addCycles_pc (n : Nat) (s : State) : (s.addCycles n).pc = s.pc := rfl
@[simp] theorem State.addCycles_p (n : Nat) (s : State) : (s.addCycles n).p = s.p := rfl
@[simp] theorem State.addCycles_cyclesRemaining (n : Nat) (s : State) :
    (s.addCycles n).cyclesRemaining = s.cyclesRemaining + n :=
  rfl
@[simp] theorem State.addCycles_cyclesTotal (n : Nat) (s : State) :
    (s.addCycles n).cyclesTotal = s.cyclesTotal :=
  rfl
@[simp] theorem State.addCycles_ram (n : Nat) (s : State) : (s.addCycles n).ram = s.ram := rfl
@[simp] theorem State.addCycles_rom (n : Nat) (s : State) : (s.addCycles n).rom = s.rom := rfl
@[simp] theorem State.addCycles_cart (n : Nat) (s : State) : (s.addCycles n).cart = s.cart := rfl
@[simp] theorem State.addCycles_schedAcc (n : Nat) (s : State) : (s.addCycles n).schedAcc = s.schedAcc :=
  rfl
@[simp] theorem State.addCycles_vdp (n : Nat) (s : State) : (s.addCycles n).vdp = s.vdp := rfl
@[simp] theorem State.addCycles_snd (n : Nat) (s : State) : (s.addCycles n).snd = s.snd := rfl
@[simp] theorem State.addCycles_via (n : Nat) (s : State) : (s.addCycles n).via = s.via := rfl
@[simp] theorem State.addCycles_slots (n : Nat) (s : State) : (s.addCycles n).slots = s.slots := rfl
@[simp] theorem State.addCycles_params (n : Nat) (s : State) : (s.addCycles n).params = s.params := rfl
@[simp] theorem State.addCycles_resetRequest (n : Nat) (s : State) :
    (s.addCycles n).resetRequest = s.resetRequest :=
  rfl
@[simp] theorem State.addCycles_posted (n : Nat) (s : State) : (s.addCycles n).posted = s.posted := rfl
@[simp] theorem State.addCycles_frameReady (n : Nat) (s : State) :
    (s.addCycles n).frameReady = s.frameReady :=
  rfl
@[simp] theorem State.addCycles_bcdDrawn (n : Nat) (s : State) : (s.addCycles n).bcdDrawn = s.bcdDrawn :=
  rfl

/-! ### `countCycle` -/

@[simp] theorem countCycle_a (s : State) : (countCycle s).a = s.a := rfl
@[simp] theorem countCycle_x (s : State) : (countCycle s).x = s.x := rfl
@[simp] theorem countCycle_y (s : State) : (countCycle s).y = s.y := rfl
@[simp] theorem countCycle_sp (s : State) : (countCycle s).sp = s.sp := rfl
@[simp] theorem countCycle_pc (s : State) : (countCycle s).pc = s.pc := rfl
@[simp] theorem countCycle_p (s : State) : (countCycle s).p = s.p := rfl
@[simp] theorem countCycle_cyclesRemaining (s : State) :
    (countCycle s).cyclesRemaining = s.cyclesRemaining - 1 :=
  rfl
@[simp] theorem countCycle_cyclesTotal (s : State) : (countCycle s).cyclesTotal = s.cyclesTotal + 1 := rfl
@[simp] theorem countCycle_ram (s : State) : (countCycle s).ram = s.ram := rfl
@[simp] theorem countCycle_rom (s : State) : (countCycle s).rom = s.rom := rfl
@[simp] theorem countCycle_cart (s : State) : (countCycle s).cart = s.cart := rfl
@[simp] theorem countCycle_schedAcc (s : State) : (countCycle s).schedAcc = s.schedAcc := rfl
@[simp] theorem countCycle_vdp (s : State) : (countCycle s).vdp = s.vdp := rfl
@[simp] theorem countCycle_snd (s : State) : (countCycle s).snd = s.snd := rfl
@[simp] theorem countCycle_via (s : State) : (countCycle s).via = s.via := rfl
@[simp] theorem countCycle_slots (s : State) : (countCycle s).slots = s.slots := rfl
@[simp] theorem countCycle_params (s : State) : (countCycle s).params = s.params := rfl
@[simp] theorem countCycle_resetRequest (s : State) : (countCycle s).resetRequest = s.resetRequest := rfl
@[simp] theorem countCycle_posted (s : State) : (countCycle s).posted = s.posted := rfl
@[simp] theorem countCycle_frameReady (s : State) : (countCycle s).frameReady = s.frameReady := rfl
@[simp] theorem countCycle_bcdDrawn (s : State) : (countCycle s).bcdDrawn = s.bcdDrawn := rfl

/-! ### `State.putAlu` -/

@[simp] theorem State.putAlu_a (r : AluResult) (s : State) : (s.putAlu r).a = r.value := rfl
@[simp] theorem State.putAlu_x (r : AluResult) (s : State) : (s.putAlu r).x = s.x := rfl
@[simp] theorem State.putAlu_y (r : AluResult) (s : State) : (s.putAlu r).y = s.y := rfl
@[simp] theorem State.putAlu_sp (r : AluResult) (s : State) : (s.putAlu r).sp = s.sp := rfl
@[simp] theorem State.putAlu_pc (r : AluResult) (s : State) : (s.putAlu r).pc = s.pc := rfl
@[simp] theorem State.putAlu_p (r : AluResult) (s : State) : (s.putAlu r).p = aluBits r s.p := rfl
@[simp] theorem State.putAlu_cyclesRemaining (r : AluResult) (s : State) :
    (s.putAlu r).cyclesRemaining = s.cyclesRemaining :=
  rfl
@[simp] theorem State.putAlu_cyclesTotal (r : AluResult) (s : State) :
    (s.putAlu r).cyclesTotal = s.cyclesTotal :=
  rfl
@[simp] theorem State.putAlu_ram (r : AluResult) (s : State) : (s.putAlu r).ram = s.ram := rfl
@[simp] theorem State.putAlu_rom (r : AluResult) (s : State) : (s.putAlu r).rom = s.rom := rfl
@[simp] theorem State.putAlu_cart (r : AluResult) (s : State) : (s.putAlu r).cart = s.cart := rfl
@[simp] theorem State.putAlu_schedAcc (r : AluResult) (s : State) : (s.putAlu r).schedAcc = s.schedAcc :=
  rfl
@[simp] theorem State.putAlu_vdp (r : AluResult) (s : State) : (s.putAlu r).vdp = s.vdp := rfl
@[simp] theorem State.putAlu_snd (r : AluResult) (s : State) : (s.putAlu r).snd = s.snd := rfl
@[simp] theorem State.putAlu_via (r : AluResult) (s : State) : (s.putAlu r).via = s.via := rfl
@[simp] theorem State.putAlu_slots (r : AluResult) (s : State) : (s.putAlu r).slots = s.slots := rfl
@[simp] theorem State.putAlu_params (r : AluResult) (s : State) : (s.putAlu r).params = s.params := rfl
@[simp] theorem State.putAlu_resetRequest (r : AluResult) (s : State) :
    (s.putAlu r).resetRequest = s.resetRequest :=
  rfl
@[simp] theorem State.putAlu_posted (r : AluResult) (s : State) : (s.putAlu r).posted = s.posted := rfl
@[simp] theorem State.putAlu_frameReady (r : AluResult) (s : State) :
    (s.putAlu r).frameReady = s.frameReady :=
  rfl
@[simp] theorem State.putAlu_bcdDrawn (r : AluResult) (s : State) : (s.putAlu r).bcdDrawn = s.bcdDrawn :=
  rfl

/-! ### `State.putFreeAlu` -/

@[simp] theorem State.putFreeAlu_a (s : State) : (s.putFreeAlu).a = (Config.bcdResult s.bcdDrawn).value :=
  rfl
@[simp] theorem State.putFreeAlu_x (s : State) : (s.putFreeAlu).x = s.x := rfl
@[simp] theorem State.putFreeAlu_y (s : State) : (s.putFreeAlu).y = s.y := rfl
@[simp] theorem State.putFreeAlu_sp (s : State) : (s.putFreeAlu).sp = s.sp := rfl
@[simp] theorem State.putFreeAlu_pc (s : State) : (s.putFreeAlu).pc = s.pc := rfl
@[simp] theorem State.putFreeAlu_p (s : State) :
    (s.putFreeAlu).p = aluBits (Config.bcdResult s.bcdDrawn) s.p :=
  rfl
@[simp] theorem State.putFreeAlu_cyclesRemaining (s : State) :
    (s.putFreeAlu).cyclesRemaining = s.cyclesRemaining :=
  rfl
@[simp] theorem State.putFreeAlu_cyclesTotal (s : State) : (s.putFreeAlu).cyclesTotal = s.cyclesTotal := rfl
@[simp] theorem State.putFreeAlu_ram (s : State) : (s.putFreeAlu).ram = s.ram := rfl
@[simp] theorem State.putFreeAlu_rom (s : State) : (s.putFreeAlu).rom = s.rom := rfl
@[simp] theorem State.putFreeAlu_cart (s : State) : (s.putFreeAlu).cart = s.cart := rfl
@[simp] theorem State.putFreeAlu_schedAcc (s : State) : (s.putFreeAlu).schedAcc = s.schedAcc := rfl
@[simp] theorem State.putFreeAlu_vdp (s : State) : (s.putFreeAlu).vdp = s.vdp := rfl
@[simp] theorem State.putFreeAlu_snd (s : State) : (s.putFreeAlu).snd = s.snd := rfl
@[simp] theorem State.putFreeAlu_via (s : State) : (s.putFreeAlu).via = s.via := rfl
@[simp] theorem State.putFreeAlu_slots (s : State) : (s.putFreeAlu).slots = s.slots := rfl
@[simp] theorem State.putFreeAlu_params (s : State) : (s.putFreeAlu).params = s.params := rfl
@[simp] theorem State.putFreeAlu_resetRequest (s : State) : (s.putFreeAlu).resetRequest = s.resetRequest :=
  rfl
@[simp] theorem State.putFreeAlu_posted (s : State) : (s.putFreeAlu).posted = s.posted := rfl
@[simp] theorem State.putFreeAlu_frameReady (s : State) : (s.putFreeAlu).frameReady = s.frameReady := rfl
@[simp] theorem State.putFreeAlu_bcdDrawn (s : State) : (s.putFreeAlu).bcdDrawn = s.bcdDrawn + 1 := rfl

/-! ### `loadA` -/

@[simp] theorem loadA_a (m : Byte) (s : State) : (loadA m s).a = m := rfl
@[simp] theorem loadA_x (m : Byte) (s : State) : (loadA m s).x = s.x := rfl
@[simp] theorem loadA_y (m : Byte) (s : State) : (loadA m s).y = s.y := rfl
@[simp] theorem loadA_sp (m : Byte) (s : State) : (loadA m s).sp = s.sp := rfl
@[simp] theorem loadA_pc (m : Byte) (s : State) : (loadA m s).pc = s.pc := rfl
@[simp] theorem loadA_p (m : Byte) (s : State) : (loadA m s).p = nzBits m s.p := rfl
@[simp] theorem loadA_cyclesRemaining (m : Byte) (s : State) :
    (loadA m s).cyclesRemaining = s.cyclesRemaining :=
  rfl
@[simp] theorem loadA_cyclesTotal (m : Byte) (s : State) : (loadA m s).cyclesTotal = s.cyclesTotal := rfl
@[simp] theorem loadA_ram (m : Byte) (s : State) : (loadA m s).ram = s.ram := rfl
@[simp] theorem loadA_rom (m : Byte) (s : State) : (loadA m s).rom = s.rom := rfl
@[simp] theorem loadA_cart (m : Byte) (s : State) : (loadA m s).cart = s.cart := rfl
@[simp] theorem loadA_schedAcc (m : Byte) (s : State) : (loadA m s).schedAcc = s.schedAcc := rfl
@[simp] theorem loadA_vdp (m : Byte) (s : State) : (loadA m s).vdp = s.vdp := rfl
@[simp] theorem loadA_snd (m : Byte) (s : State) : (loadA m s).snd = s.snd := rfl
@[simp] theorem loadA_via (m : Byte) (s : State) : (loadA m s).via = s.via := rfl
@[simp] theorem loadA_slots (m : Byte) (s : State) : (loadA m s).slots = s.slots := rfl
@[simp] theorem loadA_params (m : Byte) (s : State) : (loadA m s).params = s.params := rfl
@[simp] theorem loadA_resetRequest (m : Byte) (s : State) : (loadA m s).resetRequest = s.resetRequest := rfl
@[simp] theorem loadA_posted (m : Byte) (s : State) : (loadA m s).posted = s.posted := rfl
@[simp] theorem loadA_frameReady (m : Byte) (s : State) : (loadA m s).frameReady = s.frameReady := rfl
@[simp] theorem loadA_bcdDrawn (m : Byte) (s : State) : (loadA m s).bcdDrawn = s.bcdDrawn := rfl

/-! ### `loadX` -/

@[simp] theorem loadX_a (m : Byte) (s : State) : (loadX m s).a = s.a := rfl
@[simp] theorem loadX_x (m : Byte) (s : State) : (loadX m s).x = m := rfl
@[simp] theorem loadX_y (m : Byte) (s : State) : (loadX m s).y = s.y := rfl
@[simp] theorem loadX_sp (m : Byte) (s : State) : (loadX m s).sp = s.sp := rfl
@[simp] theorem loadX_pc (m : Byte) (s : State) : (loadX m s).pc = s.pc := rfl
@[simp] theorem loadX_p (m : Byte) (s : State) : (loadX m s).p = nzBits m s.p := rfl
@[simp] theorem loadX_cyclesRemaining (m : Byte) (s : State) :
    (loadX m s).cyclesRemaining = s.cyclesRemaining :=
  rfl
@[simp] theorem loadX_cyclesTotal (m : Byte) (s : State) : (loadX m s).cyclesTotal = s.cyclesTotal := rfl
@[simp] theorem loadX_ram (m : Byte) (s : State) : (loadX m s).ram = s.ram := rfl
@[simp] theorem loadX_rom (m : Byte) (s : State) : (loadX m s).rom = s.rom := rfl
@[simp] theorem loadX_cart (m : Byte) (s : State) : (loadX m s).cart = s.cart := rfl
@[simp] theorem loadX_schedAcc (m : Byte) (s : State) : (loadX m s).schedAcc = s.schedAcc := rfl
@[simp] theorem loadX_vdp (m : Byte) (s : State) : (loadX m s).vdp = s.vdp := rfl
@[simp] theorem loadX_snd (m : Byte) (s : State) : (loadX m s).snd = s.snd := rfl
@[simp] theorem loadX_via (m : Byte) (s : State) : (loadX m s).via = s.via := rfl
@[simp] theorem loadX_slots (m : Byte) (s : State) : (loadX m s).slots = s.slots := rfl
@[simp] theorem loadX_params (m : Byte) (s : State) : (loadX m s).params = s.params := rfl
@[simp] theorem loadX_resetRequest (m : Byte) (s : State) : (loadX m s).resetRequest = s.resetRequest := rfl
@[simp] theorem loadX_posted (m : Byte) (s : State) : (loadX m s).posted = s.posted := rfl
@[simp] theorem loadX_frameReady (m : Byte) (s : State) : (loadX m s).frameReady = s.frameReady := rfl
@[simp] theorem loadX_bcdDrawn (m : Byte) (s : State) : (loadX m s).bcdDrawn = s.bcdDrawn := rfl

/-! ### `loadY` -/

@[simp] theorem loadY_a (m : Byte) (s : State) : (loadY m s).a = s.a := rfl
@[simp] theorem loadY_x (m : Byte) (s : State) : (loadY m s).x = s.x := rfl
@[simp] theorem loadY_y (m : Byte) (s : State) : (loadY m s).y = m := rfl
@[simp] theorem loadY_sp (m : Byte) (s : State) : (loadY m s).sp = s.sp := rfl
@[simp] theorem loadY_pc (m : Byte) (s : State) : (loadY m s).pc = s.pc := rfl
@[simp] theorem loadY_p (m : Byte) (s : State) : (loadY m s).p = nzBits m s.p := rfl
@[simp] theorem loadY_cyclesRemaining (m : Byte) (s : State) :
    (loadY m s).cyclesRemaining = s.cyclesRemaining :=
  rfl
@[simp] theorem loadY_cyclesTotal (m : Byte) (s : State) : (loadY m s).cyclesTotal = s.cyclesTotal := rfl
@[simp] theorem loadY_ram (m : Byte) (s : State) : (loadY m s).ram = s.ram := rfl
@[simp] theorem loadY_rom (m : Byte) (s : State) : (loadY m s).rom = s.rom := rfl
@[simp] theorem loadY_cart (m : Byte) (s : State) : (loadY m s).cart = s.cart := rfl
@[simp] theorem loadY_schedAcc (m : Byte) (s : State) : (loadY m s).schedAcc = s.schedAcc := rfl
@[simp] theorem loadY_vdp (m : Byte) (s : State) : (loadY m s).vdp = s.vdp := rfl
@[simp] theorem loadY_snd (m : Byte) (s : State) : (loadY m s).snd = s.snd := rfl
@[simp] theorem loadY_via (m : Byte) (s : State) : (loadY m s).via = s.via := rfl
@[simp] theorem loadY_slots (m : Byte) (s : State) : (loadY m s).slots = s.slots := rfl
@[simp] theorem loadY_params (m : Byte) (s : State) : (loadY m s).params = s.params := rfl
@[simp] theorem loadY_resetRequest (m : Byte) (s : State) : (loadY m s).resetRequest = s.resetRequest := rfl
@[simp] theorem loadY_posted (m : Byte) (s : State) : (loadY m s).posted = s.posted := rfl
@[simp] theorem loadY_frameReady (m : Byte) (s : State) : (loadY m s).frameReady = s.frameReady := rfl
@[simp] theorem loadY_bcdDrawn (m : Byte) (s : State) : (loadY m s).bcdDrawn = s.bcdDrawn := rfl

/-! ### `compareWith` -/

@[simp] theorem compareWith_a (r m : Byte) (s : State) : (compareWith r m s).a = s.a := rfl
@[simp] theorem compareWith_x (r m : Byte) (s : State) : (compareWith r m s).x = s.x := rfl
@[simp] theorem compareWith_y (r m : Byte) (s : State) : (compareWith r m s).y = s.y := rfl
@[simp] theorem compareWith_sp (r m : Byte) (s : State) : (compareWith r m s).sp = s.sp := rfl
@[simp] theorem compareWith_pc (r m : Byte) (s : State) : (compareWith r m s).pc = s.pc := rfl
@[simp] theorem compareWith_p (r m : Byte) (s : State) : (compareWith r m s).p = compareBits r m s.p := rfl
@[simp] theorem compareWith_cyclesRemaining (r m : Byte) (s : State) :
    (compareWith r m s).cyclesRemaining = s.cyclesRemaining :=
  rfl
@[simp] theorem compareWith_cyclesTotal (r m : Byte) (s : State) :
    (compareWith r m s).cyclesTotal = s.cyclesTotal :=
  rfl
@[simp] theorem compareWith_ram (r m : Byte) (s : State) : (compareWith r m s).ram = s.ram := rfl
@[simp] theorem compareWith_rom (r m : Byte) (s : State) : (compareWith r m s).rom = s.rom := rfl
@[simp] theorem compareWith_cart (r m : Byte) (s : State) : (compareWith r m s).cart = s.cart := rfl
@[simp] theorem compareWith_schedAcc (r m : Byte) (s : State) : (compareWith r m s).schedAcc = s.schedAcc :=
  rfl
@[simp] theorem compareWith_vdp (r m : Byte) (s : State) : (compareWith r m s).vdp = s.vdp := rfl
@[simp] theorem compareWith_snd (r m : Byte) (s : State) : (compareWith r m s).snd = s.snd := rfl
@[simp] theorem compareWith_via (r m : Byte) (s : State) : (compareWith r m s).via = s.via := rfl
@[simp] theorem compareWith_slots (r m : Byte) (s : State) : (compareWith r m s).slots = s.slots := rfl
@[simp] theorem compareWith_params (r m : Byte) (s : State) : (compareWith r m s).params = s.params := rfl
@[simp] theorem compareWith_resetRequest (r m : Byte) (s : State) :
    (compareWith r m s).resetRequest = s.resetRequest :=
  rfl
@[simp] theorem compareWith_posted (r m : Byte) (s : State) : (compareWith r m s).posted = s.posted := rfl
@[simp] theorem compareWith_frameReady (r m : Byte) (s : State) :
    (compareWith r m s).frameReady = s.frameReady :=
  rfl
@[simp] theorem compareWith_bcdDrawn (r m : Byte) (s : State) : (compareWith r m s).bcdDrawn = s.bcdDrawn :=
  rfl

/-! ### `bitTest` -/

@[simp] theorem bitTest_a (m : Byte) (s : State) : (bitTest m s).a = s.a := rfl
@[simp] theorem bitTest_x (m : Byte) (s : State) : (bitTest m s).x = s.x := rfl
@[simp] theorem bitTest_y (m : Byte) (s : State) : (bitTest m s).y = s.y := rfl
@[simp] theorem bitTest_sp (m : Byte) (s : State) : (bitTest m s).sp = s.sp := rfl
@[simp] theorem bitTest_pc (m : Byte) (s : State) : (bitTest m s).pc = s.pc := rfl
@[simp] theorem bitTest_p (m : Byte) (s : State) : (bitTest m s).p = bitBits s.a m s.p := rfl
@[simp] theorem bitTest_cyclesRemaining (m : Byte) (s : State) :
    (bitTest m s).cyclesRemaining = s.cyclesRemaining :=
  rfl
@[simp] theorem bitTest_cyclesTotal (m : Byte) (s : State) : (bitTest m s).cyclesTotal = s.cyclesTotal :=
  rfl
@[simp] theorem bitTest_ram (m : Byte) (s : State) : (bitTest m s).ram = s.ram := rfl
@[simp] theorem bitTest_rom (m : Byte) (s : State) : (bitTest m s).rom = s.rom := rfl
@[simp] theorem bitTest_cart (m : Byte) (s : State) : (bitTest m s).cart = s.cart := rfl
@[simp] theorem bitTest_schedAcc (m : Byte) (s : State) : (bitTest m s).schedAcc = s.schedAcc := rfl
@[simp] theorem bitTest_vdp (m : Byte) (s : State) : (bitTest m s).vdp = s.vdp := rfl
@[simp] theorem bitTest_snd (m : Byte) (s : State) : (bitTest m s).snd = s.snd := rfl
@[simp] theorem bitTest_via (m : Byte) (s : State) : (bitTest m s).via = s.via := rfl
@[simp] theorem bitTest_slots (m : Byte) (s : State) : (bitTest m s).slots = s.slots := rfl
@[simp] theorem bitTest_params (m : Byte) (s : State) : (bitTest m s).params = s.params := rfl
@[simp] theorem bitTest_resetRequest (m : Byte) (s : State) : (bitTest m s).resetRequest = s.resetRequest :=
  rfl
@[simp] theorem bitTest_posted (m : Byte) (s : State) : (bitTest m s).posted = s.posted := rfl
@[simp] theorem bitTest_frameReady (m : Byte) (s : State) : (bitTest m s).frameReady = s.frameReady := rfl
@[simp] theorem bitTest_bcdDrawn (m : Byte) (s : State) : (bitTest m s).bcdDrawn = s.bcdDrawn := rfl

/-! ### `bitTestImm` -/

@[simp] theorem bitTestImm_a (m : Byte) (s : State) : (bitTestImm m s).a = s.a := rfl
@[simp] theorem bitTestImm_x (m : Byte) (s : State) : (bitTestImm m s).x = s.x := rfl
@[simp] theorem bitTestImm_y (m : Byte) (s : State) : (bitTestImm m s).y = s.y := rfl
@[simp] theorem bitTestImm_sp (m : Byte) (s : State) : (bitTestImm m s).sp = s.sp := rfl
@[simp] theorem bitTestImm_pc (m : Byte) (s : State) : (bitTestImm m s).pc = s.pc := rfl
@[simp] theorem bitTestImm_p (m : Byte) (s : State) : (bitTestImm m s).p = testBits s.a m s.p := rfl
@[simp] theorem bitTestImm_cyclesRemaining (m : Byte) (s : State) :
    (bitTestImm m s).cyclesRemaining = s.cyclesRemaining :=
  rfl
@[simp] theorem bitTestImm_cyclesTotal (m : Byte) (s : State) :
    (bitTestImm m s).cyclesTotal = s.cyclesTotal :=
  rfl
@[simp] theorem bitTestImm_ram (m : Byte) (s : State) : (bitTestImm m s).ram = s.ram := rfl
@[simp] theorem bitTestImm_rom (m : Byte) (s : State) : (bitTestImm m s).rom = s.rom := rfl
@[simp] theorem bitTestImm_cart (m : Byte) (s : State) : (bitTestImm m s).cart = s.cart := rfl
@[simp] theorem bitTestImm_schedAcc (m : Byte) (s : State) : (bitTestImm m s).schedAcc = s.schedAcc := rfl
@[simp] theorem bitTestImm_vdp (m : Byte) (s : State) : (bitTestImm m s).vdp = s.vdp := rfl
@[simp] theorem bitTestImm_snd (m : Byte) (s : State) : (bitTestImm m s).snd = s.snd := rfl
@[simp] theorem bitTestImm_via (m : Byte) (s : State) : (bitTestImm m s).via = s.via := rfl
@[simp] theorem bitTestImm_slots (m : Byte) (s : State) : (bitTestImm m s).slots = s.slots := rfl
@[simp] theorem bitTestImm_params (m : Byte) (s : State) : (bitTestImm m s).params = s.params := rfl
@[simp] theorem bitTestImm_resetRequest (m : Byte) (s : State) :
    (bitTestImm m s).resetRequest = s.resetRequest :=
  rfl
@[simp] theorem bitTestImm_posted (m : Byte) (s : State) : (bitTestImm m s).posted = s.posted := rfl
@[simp] theorem bitTestImm_frameReady (m : Byte) (s : State) : (bitTestImm m s).frameReady = s.frameReady :=
  rfl
@[simp] theorem bitTestImm_bcdDrawn (m : Byte) (s : State) : (bitTestImm m s).bcdDrawn = s.bcdDrawn := rfl

/-! ### `onA` -/

@[simp] theorem onA_a (f : Modify) (s : State) : (onA f s).a = (f s.a s).1 := rfl
@[simp] theorem onA_x (f : Modify) (s : State) : (onA f s).x = s.x := rfl
@[simp] theorem onA_y (f : Modify) (s : State) : (onA f s).y = s.y := rfl
@[simp] theorem onA_sp (f : Modify) (s : State) : (onA f s).sp = s.sp := rfl
@[simp] theorem onA_pc (f : Modify) (s : State) : (onA f s).pc = s.pc := rfl
@[simp] theorem onA_p (f : Modify) (s : State) : (onA f s).p = (f s.a s).2 := rfl
@[simp] theorem onA_cyclesRemaining (f : Modify) (s : State) :
    (onA f s).cyclesRemaining = s.cyclesRemaining :=
  rfl
@[simp] theorem onA_cyclesTotal (f : Modify) (s : State) : (onA f s).cyclesTotal = s.cyclesTotal := rfl
@[simp] theorem onA_ram (f : Modify) (s : State) : (onA f s).ram = s.ram := rfl
@[simp] theorem onA_rom (f : Modify) (s : State) : (onA f s).rom = s.rom := rfl
@[simp] theorem onA_cart (f : Modify) (s : State) : (onA f s).cart = s.cart := rfl
@[simp] theorem onA_schedAcc (f : Modify) (s : State) : (onA f s).schedAcc = s.schedAcc := rfl
@[simp] theorem onA_vdp (f : Modify) (s : State) : (onA f s).vdp = s.vdp := rfl
@[simp] theorem onA_snd (f : Modify) (s : State) : (onA f s).snd = s.snd := rfl
@[simp] theorem onA_via (f : Modify) (s : State) : (onA f s).via = s.via := rfl
@[simp] theorem onA_slots (f : Modify) (s : State) : (onA f s).slots = s.slots := rfl
@[simp] theorem onA_params (f : Modify) (s : State) : (onA f s).params = s.params := rfl
@[simp] theorem onA_resetRequest (f : Modify) (s : State) : (onA f s).resetRequest = s.resetRequest := rfl
@[simp] theorem onA_posted (f : Modify) (s : State) : (onA f s).posted = s.posted := rfl
@[simp] theorem onA_frameReady (f : Modify) (s : State) : (onA f s).frameReady = s.frameReady := rfl
@[simp] theorem onA_bcdDrawn (f : Modify) (s : State) : (onA f s).bcdDrawn = s.bcdDrawn := rfl

/-! ### `Via.setFlags` -/

@[simp] theorem Via.setFlags_ora (m : BitVec 7) (s : Via) : (s.setFlags m).ora = s.ora := rfl
@[simp] theorem Via.setFlags_orb (m : BitVec 7) (s : Via) : (s.setFlags m).orb = s.orb := rfl
@[simp] theorem Via.setFlags_ddra (m : BitVec 7) (s : Via) : (s.setFlags m).ddra = s.ddra := rfl
@[simp] theorem Via.setFlags_ddrb (m : BitVec 7) (s : Via) : (s.setFlags m).ddrb = s.ddrb := rfl
@[simp] theorem Via.setFlags_t1c (m : BitVec 7) (s : Via) : (s.setFlags m).t1c = s.t1c := rfl
@[simp] theorem Via.setFlags_t1l (m : BitVec 7) (s : Via) : (s.setFlags m).t1l = s.t1l := rfl
@[simp] theorem Via.setFlags_t2c (m : BitVec 7) (s : Via) : (s.setFlags m).t2c = s.t2c := rfl
@[simp] theorem Via.setFlags_t2l (m : BitVec 7) (s : Via) : (s.setFlags m).t2l = s.t2l := rfl
@[simp] theorem Via.setFlags_t1Running (m : BitVec 7) (s : Via) : (s.setFlags m).t1Running = s.t1Running :=
  rfl
@[simp] theorem Via.setFlags_t2Running (m : BitVec 7) (s : Via) : (s.setFlags m).t2Running = s.t2Running :=
  rfl
@[simp] theorem Via.setFlags_t1ReloadPending (m : BitVec 7) (s : Via) :
    (s.setFlags m).t1ReloadPending = s.t1ReloadPending :=
  rfl
@[simp] theorem Via.setFlags_sr (m : BitVec 7) (s : Via) : (s.setFlags m).sr = s.sr := rfl
@[simp] theorem Via.setFlags_acr (m : BitVec 7) (s : Via) : (s.setFlags m).acr = s.acr := rfl
@[simp] theorem Via.setFlags_pcr (m : BitVec 7) (s : Via) : (s.setFlags m).pcr = s.pcr := rfl
@[simp] theorem Via.setFlags_ifr (m : BitVec 7) (s : Via) : (s.setFlags m).ifr = s.ifr ||| m := rfl
@[simp] theorem Via.setFlags_ier (m : BitVec 7) (s : Via) : (s.setFlags m).ier = s.ier := rfl
@[simp] theorem Via.setFlags_ca1 (m : BitVec 7) (s : Via) : (s.setFlags m).ca1 = s.ca1 := rfl
@[simp] theorem Via.setFlags_ca2 (m : BitVec 7) (s : Via) : (s.setFlags m).ca2 = s.ca2 := rfl
@[simp] theorem Via.setFlags_cb1 (m : BitVec 7) (s : Via) : (s.setFlags m).cb1 = s.cb1 := rfl
@[simp] theorem Via.setFlags_cb2 (m : BitVec 7) (s : Via) : (s.setFlags m).cb2 = s.cb2 := rfl
@[simp] theorem Via.setFlags_portA (m : BitVec 7) (s : Via) : (s.setFlags m).portA = s.portA := rfl
@[simp] theorem Via.setFlags_portB (m : BitVec 7) (s : Via) : (s.setFlags m).portB = s.portB := rfl
@[simp] theorem Via.setFlags_notices (m : BitVec 7) (s : Via) : (s.setFlags m).notices = s.notices := rfl
@[simp] theorem Via.setFlags_drawn (m : BitVec 7) (s : Via) : (s.setFlags m).drawn = s.drawn := rfl

/-! ### `Via.clearFlags` -/

@[simp] theorem Via.clearFlags_ora (m : BitVec 7) (s : Via) : (s.clearFlags m).ora = s.ora := rfl
@[simp] theorem Via.clearFlags_orb (m : BitVec 7) (s : Via) : (s.clearFlags m).orb = s.orb := rfl
@[simp] theorem Via.clearFlags_ddra (m : BitVec 7) (s : Via) : (s.clearFlags m).ddra = s.ddra := rfl
@[simp] theorem Via.clearFlags_ddrb (m : BitVec 7) (s : Via) : (s.clearFlags m).ddrb = s.ddrb := rfl
@[simp] theorem Via.clearFlags_t1c (m : BitVec 7) (s : Via) : (s.clearFlags m).t1c = s.t1c := rfl
@[simp] theorem Via.clearFlags_t1l (m : BitVec 7) (s : Via) : (s.clearFlags m).t1l = s.t1l := rfl
@[simp] theorem Via.clearFlags_t2c (m : BitVec 7) (s : Via) : (s.clearFlags m).t2c = s.t2c := rfl
@[simp] theorem Via.clearFlags_t2l (m : BitVec 7) (s : Via) : (s.clearFlags m).t2l = s.t2l := rfl
@[simp] theorem Via.clearFlags_t1Running (m : BitVec 7) (s : Via) :
    (s.clearFlags m).t1Running = s.t1Running :=
  rfl
@[simp] theorem Via.clearFlags_t2Running (m : BitVec 7) (s : Via) :
    (s.clearFlags m).t2Running = s.t2Running :=
  rfl
@[simp] theorem Via.clearFlags_t1ReloadPending (m : BitVec 7) (s : Via) :
    (s.clearFlags m).t1ReloadPending = s.t1ReloadPending :=
  rfl
@[simp] theorem Via.clearFlags_sr (m : BitVec 7) (s : Via) : (s.clearFlags m).sr = s.sr := rfl
@[simp] theorem Via.clearFlags_acr (m : BitVec 7) (s : Via) : (s.clearFlags m).acr = s.acr := rfl
@[simp] theorem Via.clearFlags_pcr (m : BitVec 7) (s : Via) : (s.clearFlags m).pcr = s.pcr := rfl
@[simp] theorem Via.clearFlags_ifr (m : BitVec 7) (s : Via) : (s.clearFlags m).ifr = s.ifr &&& ~~~m := rfl
@[simp] theorem Via.clearFlags_ier (m : BitVec 7) (s : Via) : (s.clearFlags m).ier = s.ier := rfl
@[simp] theorem Via.clearFlags_ca1 (m : BitVec 7) (s : Via) : (s.clearFlags m).ca1 = s.ca1 := rfl
@[simp] theorem Via.clearFlags_ca2 (m : BitVec 7) (s : Via) : (s.clearFlags m).ca2 = s.ca2 := rfl
@[simp] theorem Via.clearFlags_cb1 (m : BitVec 7) (s : Via) : (s.clearFlags m).cb1 = s.cb1 := rfl
@[simp] theorem Via.clearFlags_cb2 (m : BitVec 7) (s : Via) : (s.clearFlags m).cb2 = s.cb2 := rfl
@[simp] theorem Via.clearFlags_portA (m : BitVec 7) (s : Via) : (s.clearFlags m).portA = s.portA := rfl
@[simp] theorem Via.clearFlags_portB (m : BitVec 7) (s : Via) : (s.clearFlags m).portB = s.portB := rfl
@[simp] theorem Via.clearFlags_notices (m : BitVec 7) (s : Via) : (s.clearFlags m).notices = s.notices :=
  rfl
@[simp] theorem Via.clearFlags_drawn (m : BitVec 7) (s : Via) : (s.clearFlags m).drawn = s.drawn := rfl

/-! ### `Via.note` -/

@[simp] theorem Via.note_ora (q : Port) (i : Nat) (c : AttachCall) (s : Via) : (s.note q i c).ora = s.ora :=
  rfl
@[simp] theorem Via.note_orb (q : Port) (i : Nat) (c : AttachCall) (s : Via) : (s.note q i c).orb = s.orb :=
  rfl
@[simp] theorem Via.note_ddra (q : Port) (i : Nat) (c : AttachCall) (s : Via) :
    (s.note q i c).ddra = s.ddra :=
  rfl
@[simp] theorem Via.note_ddrb (q : Port) (i : Nat) (c : AttachCall) (s : Via) :
    (s.note q i c).ddrb = s.ddrb :=
  rfl
@[simp] theorem Via.note_t1c (q : Port) (i : Nat) (c : AttachCall) (s : Via) : (s.note q i c).t1c = s.t1c :=
  rfl
@[simp] theorem Via.note_t1l (q : Port) (i : Nat) (c : AttachCall) (s : Via) : (s.note q i c).t1l = s.t1l :=
  rfl
@[simp] theorem Via.note_t2c (q : Port) (i : Nat) (c : AttachCall) (s : Via) : (s.note q i c).t2c = s.t2c :=
  rfl
@[simp] theorem Via.note_t2l (q : Port) (i : Nat) (c : AttachCall) (s : Via) : (s.note q i c).t2l = s.t2l :=
  rfl
@[simp] theorem Via.note_t1Running (q : Port) (i : Nat) (c : AttachCall) (s : Via) :
    (s.note q i c).t1Running = s.t1Running :=
  rfl
@[simp] theorem Via.note_t2Running (q : Port) (i : Nat) (c : AttachCall) (s : Via) :
    (s.note q i c).t2Running = s.t2Running :=
  rfl
@[simp] theorem Via.note_t1ReloadPending (q : Port) (i : Nat) (c : AttachCall) (s : Via) :
    (s.note q i c).t1ReloadPending = s.t1ReloadPending :=
  rfl
@[simp] theorem Via.note_sr (q : Port) (i : Nat) (c : AttachCall) (s : Via) : (s.note q i c).sr = s.sr :=
  rfl
@[simp] theorem Via.note_acr (q : Port) (i : Nat) (c : AttachCall) (s : Via) : (s.note q i c).acr = s.acr :=
  rfl
@[simp] theorem Via.note_pcr (q : Port) (i : Nat) (c : AttachCall) (s : Via) : (s.note q i c).pcr = s.pcr :=
  rfl
@[simp] theorem Via.note_ifr (q : Port) (i : Nat) (c : AttachCall) (s : Via) : (s.note q i c).ifr = s.ifr :=
  rfl
@[simp] theorem Via.note_ier (q : Port) (i : Nat) (c : AttachCall) (s : Via) : (s.note q i c).ier = s.ier :=
  rfl
@[simp] theorem Via.note_ca1 (q : Port) (i : Nat) (c : AttachCall) (s : Via) : (s.note q i c).ca1 = s.ca1 :=
  rfl
@[simp] theorem Via.note_ca2 (q : Port) (i : Nat) (c : AttachCall) (s : Via) : (s.note q i c).ca2 = s.ca2 :=
  rfl
@[simp] theorem Via.note_cb1 (q : Port) (i : Nat) (c : AttachCall) (s : Via) : (s.note q i c).cb1 = s.cb1 :=
  rfl
@[simp] theorem Via.note_cb2 (q : Port) (i : Nat) (c : AttachCall) (s : Via) : (s.note q i c).cb2 = s.cb2 :=
  rfl
@[simp] theorem Via.note_portA (q : Port) (i : Nat) (c : AttachCall) (s : Via) :
    (s.note q i c).portA = s.portA :=
  rfl
@[simp] theorem Via.note_portB (q : Port) (i : Nat) (c : AttachCall) (s : Via) :
    (s.note q i c).portB = s.portB :=
  rfl
@[simp] theorem Via.note_notices (q : Port) (i : Nat) (c : AttachCall) (s : Via) :
    (s.note q i c).notices = s.notices ++ [⟨q, i, c⟩] :=
  rfl
@[simp] theorem Via.note_drawn (q : Port) (i : Nat) (c : AttachCall) (s : Via) :
    (s.note q i c).drawn = s.drawn :=
  rfl

/-! ### `Via.notePort` -/

@[simp] theorem Via.notePort_ora (q : Port) (c : AttachCall) (s : Via) : (s.notePort q c).ora = s.ora := rfl
@[simp] theorem Via.notePort_orb (q : Port) (c : AttachCall) (s : Via) : (s.notePort q c).orb = s.orb := rfl
@[simp] theorem Via.notePort_ddra (q : Port) (c : AttachCall) (s : Via) : (s.notePort q c).ddra = s.ddra :=
  rfl
@[simp] theorem Via.notePort_ddrb (q : Port) (c : AttachCall) (s : Via) : (s.notePort q c).ddrb = s.ddrb :=
  rfl
@[simp] theorem Via.notePort_t1c (q : Port) (c : AttachCall) (s : Via) : (s.notePort q c).t1c = s.t1c := rfl
@[simp] theorem Via.notePort_t1l (q : Port) (c : AttachCall) (s : Via) : (s.notePort q c).t1l = s.t1l := rfl
@[simp] theorem Via.notePort_t2c (q : Port) (c : AttachCall) (s : Via) : (s.notePort q c).t2c = s.t2c := rfl
@[simp] theorem Via.notePort_t2l (q : Port) (c : AttachCall) (s : Via) : (s.notePort q c).t2l = s.t2l := rfl
@[simp] theorem Via.notePort_t1Running (q : Port) (c : AttachCall) (s : Via) :
    (s.notePort q c).t1Running = s.t1Running :=
  rfl
@[simp] theorem Via.notePort_t2Running (q : Port) (c : AttachCall) (s : Via) :
    (s.notePort q c).t2Running = s.t2Running :=
  rfl
@[simp] theorem Via.notePort_t1ReloadPending (q : Port) (c : AttachCall) (s : Via) :
    (s.notePort q c).t1ReloadPending = s.t1ReloadPending :=
  rfl
@[simp] theorem Via.notePort_sr (q : Port) (c : AttachCall) (s : Via) : (s.notePort q c).sr = s.sr := rfl
@[simp] theorem Via.notePort_acr (q : Port) (c : AttachCall) (s : Via) : (s.notePort q c).acr = s.acr := rfl
@[simp] theorem Via.notePort_pcr (q : Port) (c : AttachCall) (s : Via) : (s.notePort q c).pcr = s.pcr := rfl
@[simp] theorem Via.notePort_ifr (q : Port) (c : AttachCall) (s : Via) : (s.notePort q c).ifr = s.ifr := rfl
@[simp] theorem Via.notePort_ier (q : Port) (c : AttachCall) (s : Via) : (s.notePort q c).ier = s.ier := rfl
@[simp] theorem Via.notePort_ca1 (q : Port) (c : AttachCall) (s : Via) : (s.notePort q c).ca1 = s.ca1 := rfl
@[simp] theorem Via.notePort_ca2 (q : Port) (c : AttachCall) (s : Via) : (s.notePort q c).ca2 = s.ca2 := rfl
@[simp] theorem Via.notePort_cb1 (q : Port) (c : AttachCall) (s : Via) : (s.notePort q c).cb1 = s.cb1 := rfl
@[simp] theorem Via.notePort_cb2 (q : Port) (c : AttachCall) (s : Via) : (s.notePort q c).cb2 = s.cb2 := rfl
@[simp] theorem Via.notePort_portA (q : Port) (c : AttachCall) (s : Via) :
    (s.notePort q c).portA = s.portA :=
  rfl
@[simp] theorem Via.notePort_portB (q : Port) (c : AttachCall) (s : Via) :
    (s.notePort q c).portB = s.portB :=
  rfl
@[simp] theorem Via.notePort_notices (q : Port) (c : AttachCall) (s : Via) :
    (s.notePort q c).notices = s.notices ++ callAll q (s.list q) c :=
  rfl
@[simp] theorem Via.notePort_drawn (q : Port) (c : AttachCall) (s : Via) :
    (s.notePort q c).drawn = s.drawn :=
  rfl

/-! ### `Via.noteBoth` -/

@[simp] theorem Via.noteBoth_ora (c : AttachCall) (s : Via) : (s.noteBoth c).ora = s.ora := rfl
@[simp] theorem Via.noteBoth_orb (c : AttachCall) (s : Via) : (s.noteBoth c).orb = s.orb := rfl
@[simp] theorem Via.noteBoth_ddra (c : AttachCall) (s : Via) : (s.noteBoth c).ddra = s.ddra := rfl
@[simp] theorem Via.noteBoth_ddrb (c : AttachCall) (s : Via) : (s.noteBoth c).ddrb = s.ddrb := rfl
@[simp] theorem Via.noteBoth_t1c (c : AttachCall) (s : Via) : (s.noteBoth c).t1c = s.t1c := rfl
@[simp] theorem Via.noteBoth_t1l (c : AttachCall) (s : Via) : (s.noteBoth c).t1l = s.t1l := rfl
@[simp] theorem Via.noteBoth_t2c (c : AttachCall) (s : Via) : (s.noteBoth c).t2c = s.t2c := rfl
@[simp] theorem Via.noteBoth_t2l (c : AttachCall) (s : Via) : (s.noteBoth c).t2l = s.t2l := rfl
@[simp] theorem Via.noteBoth_t1Running (c : AttachCall) (s : Via) :
    (s.noteBoth c).t1Running = s.t1Running :=
  rfl
@[simp] theorem Via.noteBoth_t2Running (c : AttachCall) (s : Via) :
    (s.noteBoth c).t2Running = s.t2Running :=
  rfl
@[simp] theorem Via.noteBoth_t1ReloadPending (c : AttachCall) (s : Via) :
    (s.noteBoth c).t1ReloadPending = s.t1ReloadPending :=
  rfl
@[simp] theorem Via.noteBoth_sr (c : AttachCall) (s : Via) : (s.noteBoth c).sr = s.sr := rfl
@[simp] theorem Via.noteBoth_acr (c : AttachCall) (s : Via) : (s.noteBoth c).acr = s.acr := rfl
@[simp] theorem Via.noteBoth_pcr (c : AttachCall) (s : Via) : (s.noteBoth c).pcr = s.pcr := rfl
@[simp] theorem Via.noteBoth_ifr (c : AttachCall) (s : Via) : (s.noteBoth c).ifr = s.ifr := rfl
@[simp] theorem Via.noteBoth_ier (c : AttachCall) (s : Via) : (s.noteBoth c).ier = s.ier := rfl
@[simp] theorem Via.noteBoth_ca1 (c : AttachCall) (s : Via) : (s.noteBoth c).ca1 = s.ca1 := rfl
@[simp] theorem Via.noteBoth_ca2 (c : AttachCall) (s : Via) : (s.noteBoth c).ca2 = s.ca2 := rfl
@[simp] theorem Via.noteBoth_cb1 (c : AttachCall) (s : Via) : (s.noteBoth c).cb1 = s.cb1 := rfl
@[simp] theorem Via.noteBoth_cb2 (c : AttachCall) (s : Via) : (s.noteBoth c).cb2 = s.cb2 := rfl
@[simp] theorem Via.noteBoth_portA (c : AttachCall) (s : Via) : (s.noteBoth c).portA = s.portA := rfl
@[simp] theorem Via.noteBoth_portB (c : AttachCall) (s : Via) : (s.noteBoth c).portB = s.portB := rfl
@[simp] theorem Via.noteBoth_notices (c : AttachCall) (s : Via) :
    (s.noteBoth c).notices = s.notices ++ callAll .a s.portA c ++ callAll .b s.portB c :=
  rfl
@[simp] theorem Via.noteBoth_drawn (c : AttachCall) (s : Via) : (s.noteBoth c).drawn = s.drawn := rfl

/-! ### `Vdp.prefetch` -/

@[simp] theorem Vdp.prefetch_vram (s : Vdp) : (s.prefetch).vram = s.vram := rfl
@[simp] theorem Vdp.prefetch_regs (s : Vdp) : (s.prefetch).regs = s.regs := rfl
@[simp] theorem Vdp.prefetch_addr (s : Vdp) : (s.prefetch).addr = s.addr + 1 := rfl
@[simp] theorem Vdp.prefetch_readbuf (s : Vdp) : (s.prefetch).readbuf = Memory.read s.vram s.addr.toNat :=
  rfl
@[simp] theorem Vdp.prefetch_latched (s : Vdp) : (s.prefetch).latched = s.latched := rfl
@[simp] theorem Vdp.prefetch_latchByte (s : Vdp) : (s.prefetch).latchByte = s.latchByte := rfl
@[simp] theorem Vdp.prefetch_status (s : Vdp) : (s.prefetch).status = s.status := rfl
@[simp] theorem Vdp.prefetch_scanline (s : Vdp) : (s.prefetch).scanline = s.scanline := rfl
@[simp] theorem Vdp.prefetch_pace (s : Vdp) : (s.prefetch).pace = s.pace := rfl
@[simp] theorem Vdp.prefetch_frame (s : Vdp) : (s.prefetch).frame = s.frame := rfl
@[simp] theorem Vdp.prefetch_linesDrawn (s : Vdp) : (s.prefetch).linesDrawn = s.linesDrawn := rfl

end Sys2Proof.Machine
end

