-- ==== Sys2Proof/Laws/Bus.lean ====
section
/-! SUPPORT. What the decoder and the two bus cycles can do, said once: where an address goes, what a read
or a write leaves alone, and what reads as what after a write. -/

namespace Sys2Proof.Machine

/-! ### The decoder -/

theorem decodeAddr_ram {a : Word} (c : Bool) (h : a.getLsbD 15 = false) :
    decodeAddr c a = .ram (a.extractLsb' 0 15) := by
  unfold decodeAddr
  rw [if_pos h]

/-- Page one is RAM. -/
theorem stackAddr_bit15 (sp : Byte) : (stackAddr sp).getLsbD 15 = false := by
  have h : (stackAddr sp).toNat < 32768 := by
    simp only [stackAddr, zext16, BitVec.toNat_add, BitVec.toNat_setWidth, BitVec.toNat_ofNat]
    omega
  simp only [BitVec.getLsbD, Nat.testBit_eq_decide_div_mod_eq]
  simp only [decide_eq_false_iff_not]
  omega

/-- Page zero is RAM. -/
theorem zext16_bit15 (b : Byte) : (zext16 b).getLsbD 15 = false := by
  simp [zext16]

/-- The number of the stack cell. -/
theorem stackAddr_toNat (sp : Byte) : (stackAddr sp).toNat = 256 + sp.toNat := by
  simp only [stackAddr, zext16, BitVec.toNat_add, BitVec.toNat_setWidth, BitVec.toNat_ofNat]
  omega

/-- The cell of a RAM address is the address. -/
theorem cell_toNat {a : Word} (h : a.getLsbD 15 = false) : (a.extractLsb' 0 15).toNat = a.toNat := by
  simp only [BitVec.getLsbD, Nat.testBit_eq_decide_div_mod_eq, decide_eq_false_iff_not] at h
  simp only [BitVec.extractLsb'_toNat, Nat.shiftRight_zero]
  omega

/-! ### Reads -/

theorem memRead_ram {a : Word} (s : State) (h : a.getLsbD 15 = false) :
    memRead a s = (Memory.read s.ram a.toNat, s) := by
  simp [memRead, decodeAddr_ram _ h, cell_toNat h]

theorem memWrite_ram {a : Word} (x : Byte) (s : State) (h : a.getLsbD 15 = false) :
    memWrite a x s = { s with ram := Memory.write s.ram a.toNat x } := by
  simp [memWrite, decodeAddr_ram _ h, cell_toNat h]

/-- A read of RAM, ROM or Cart has no effect (R90). -/
theorem memRead_plain {a : Word} {s : State} (h : plainAt a s) : (memRead a s).2 = s := by
  unfold plainAt isPlain at h
  unfold memRead
  split at h <;> simp_all

theorem Vdp.readPort_frame (odd : Bool) (d : Vdp) :
    (d.readPort odd).2.vram = d.vram ∧ (d.readPort odd).2.regs = d.regs ∧
      (d.readPort odd).2.frame = d.frame ∧ (d.readPort odd).2.scanline = d.scanline ∧
      (d.readPort odd).2.pace = d.pace ∧ (d.readPort odd).2.linesDrawn = d.linesDrawn := by
  cases odd <;> simp [Vdp.readPort, Vdp.readStatus, Vdp.readData]

/-- What no bus read changes (R90). -/
theorem memRead_leaves (a : Word) (s : State) : readLeavesAlone s (memRead a s).2 := by
  unfold readLeavesAlone sameRegs memRead
  split <;> simp [Vdp.readPort_frame]

theorem Vdp.writePort_frame (odd : Bool) (x : Byte) (d : Vdp) :
    (d.writePort odd x).frame = d.frame ∧ (d.writePort odd x).status = d.status ∧
      (d.writePort odd x).scanline = d.scanline ∧ (d.writePort odd x).pace = d.pace ∧
      (d.writePort odd x).linesDrawn = d.linesDrawn := by
  cases odd
  · simp [Vdp.writePort, Vdp.writeData]
  · simp only [Vdp.writePort, Vdp.writeControl, if_true]
    split
    · split
      · simp
      · split <;> simp
    · simp

theorem Voice.writeReg_lfsr (r : Nat) (x : Byte) (v : Voice) : (v.writeReg r x).lfsr = v.lfsr := by
  unfold Voice.writeReg Voice.writeCtrl
  split <;> (try split) <;> (try split) <;> rfl

theorem Sound.writeReg_frame (n : BitVec 5) (x : Byte) (c : Sound) :
    (c.writeReg n x).out = c.out ∧ (c.writeReg n x).sampleAcc = c.sampleAcc ∧
      (c.writeReg n x).lp = c.lp ∧ (c.writeReg n x).bp = c.bp ∧ (c.writeReg n x).hp = c.hp ∧
      (c.writeReg n x).v0.lfsr = c.v0.lfsr ∧ (c.writeReg n x).v1.lfsr = c.v1.lfsr ∧
      (c.writeReg n x).v2.lfsr = c.v2.lfsr := by
  simp only [Sound.writeReg]
  split
  · simp [Voice.writeReg_lfsr]
  · split
    · simp [Voice.writeReg_lfsr]
    · split
      · simp [Voice.writeReg_lfsr]
      · split <;> simp

/-- What no bus write changes (R91). -/
theorem memWrite_leaves (a : Word) (x : Byte) (s : State) : writeLeavesAlone s (memWrite a x s) := by
  unfold writeLeavesAlone sameRegs memWrite
  split <;> simp [Vdp.writePort_frame, Sound.writeReg_frame]

/-- Two addresses never select the same cell of RAM, ROM or Cart. -/
theorem differentCell_of_ne {a b : Word} {s : State} (hb : plainAt b s) (h : b ≠ a) :
    differentCell a b s := by
  have slot : ∀ c : Word, isPlain s.params.cartPresent c = true → c.getLsbD 15 = true →
      decodeAddr s.params.cartPresent c = .cart (c.extractLsb' 0 15) ∨
        decodeAddr s.params.cartPresent c = .rom (c.extractLsb' 0 15) := by
    intro c hc h15
    by_cases hs : c.extractLsb' 13 3 = 0b100#3
    · have hd : decodeAddr s.params.cartPresent c = decodeSlot c := by
        unfold decodeAddr
        rw [if_neg (by simp [h15]), if_pos hs]
      exfalso
      unfold isPlain at hc
      rw [hd] at hc
      have hn : ∀ k, decodeSlot c ≠ .ram k ∧ decodeSlot c ≠ .rom k ∧ decodeSlot c ≠ .cart k := by
        intro k
        unfold decodeSlot
        split <;> simp
      split at hc
      · next k hk => exact (hn k).1 hk
      · next k hk => exact (hn k).2.1 hk
      · next k hk => exact (hn k).2.2 hk
      · cases hc
    · unfold decodeAddr
      rw [if_neg (by simp [h15]), if_neg hs]
      split
      · exact .inl rfl
      · exact .inr rfl
  have back : ∀ c : Word, c.toNat = (c.extractLsb' 0 15).toNat + 32768 * (c.getLsbD 15).toNat := by
    intro c
    simp only [BitVec.extractLsb'_toNat, Nat.shiftRight_zero, BitVec.getLsbD,
      Nat.testBit_eq_decide_div_mod_eq]
    have := c.isLt
    by_cases hc : c.toNat / 2 ^ 15 % 2 = 1 <;> simp only [hc, decide_true, decide_false,
      Bool.toNat_true, Bool.toNat_false] <;> omega
  intro he
  have ha : plainAt a s := by
    unfold plainAt isPlain at hb ⊢
    rwa [he]
  apply h
  apply BitVec.eq_of_toNat_eq
  cases ka : a.getLsbD 15 <;> cases kb : b.getLsbD 15
  · rw [decodeAddr_ram _ ka, decodeAddr_ram _ kb] at he
    rw [back a, back b, ka, kb, Target.ram.inj he]
  · rw [decodeAddr_ram _ ka] at he
    rcases slot b hb kb with h1 | h1 <;> rw [h1] at he <;> cases he
  · rw [decodeAddr_ram _ kb] at he
    rcases slot a ha ka with h1 | h1 <;> rw [h1] at he <;> cases he
  · rcases slot a ha ka with h1 | h1 <;> rcases slot b hb kb with h2 | h2 <;> rw [h1, h2] at he
    · rw [back a, back b, ka, kb, Target.cart.inj he]
    · cases he
    · cases he
    · rw [back a, back b, ka, kb, Target.rom.inj he]

/-- A store leaves every other cell of RAM, ROM and Cart as it reads (R91). -/
theorem memWrite_byteAt {a b : Word} (x : Byte) {s : State} (hb : plainAt b s)
    (hd : differentCell a b s) : byteAt b (memWrite a x s) = byteAt b s := by
  have hp : (memWrite a x s).params = s.params := (memWrite_leaves a x s).2.2.2.2.2.2.2.2.2.2.1
  have hrom : (memWrite a x s).rom = s.rom := (memWrite_leaves a x s).2.2.2.2.1
  have hcart : (memWrite a x s).cart = s.cart := (memWrite_leaves a x s).2.2.2.2.2.1
  unfold plainAt isPlain at hb
  unfold differentCell at hd
  unfold byteAt memRead
  rw [hp]
  split at hb
  · next c hc =>
    simp only [hc]
    unfold memWrite
    split
    · next c' hc' =>
      simp only
      refine Memory.read_write_ne _ _ ?_
      intro he
      exact hd (by rw [hc', hc, BitVec.eq_of_toNat_eq he])
    all_goals rfl
  · next c hc => simp only [hc, hrom]
  · next c hc => simp only [hc, hcart]
  · cases hb

/-- The byte stored to RAM is read back (R105). -/
theorem memWrite_byteAt_self {a : Word} (x : Byte) {s : State} (h : a.getLsbD 15 = false)
    (hw : Memory.wf s.ram = true) : byteAt a (memWrite a x s) = x := by
  unfold byteAt
  rw [memRead_ram _ h, memWrite_ram _ _ h]
  exact Memory.read_write_self hw _ _

/-! ### The stack -/

theorem push_eq (x : Byte) (s : State) :
    push x s = { s with ram := Memory.write s.ram (256 + s.sp.toNat) x, sp := s.sp - 1 } := by
  simp [push, memWrite_ram _ _ (stackAddr_bit15 s.sp), stackAddr_toNat]

theorem pull_eq (s : State) :
    pull s = (Memory.read s.ram (256 + (s.sp + 1).toNat), { s with sp := s.sp + 1 }) := by
  unfold pull
  rw [memRead_ram _ (stackAddr_bit15 (s.sp + 1)), stackAddr_toNat]

/-- The vectors lie in ROM or Cart: reading them has no effect (R102). -/
theorem decodeAddr_vector (c : Bool) {a : Word} (h : 0xFFFA#16 ≤ a) :
    isPlain c a = true := by
  have h15 : a.getLsbD 15 = true := by
    have : 65530 ≤ a.toNat := by simpa [BitVec.le_def] using h
    simp only [BitVec.getLsbD, Nat.testBit_eq_decide_div_mod_eq, decide_eq_true_eq]
    have := a.isLt; omega
  have h13 : a.extractLsb' 13 3 ≠ 0b100#3 := by
    have : 65530 ≤ a.toNat := by simpa [BitVec.le_def] using h
    intro he
    have := congrArg BitVec.toNat he
    simp only [BitVec.extractLsb'_toNat, BitVec.toNat_ofNat, Nat.shiftRight_eq_div_pow] at this
    have := a.isLt; omega
  unfold isPlain decodeAddr
  rw [if_neg (by simp [h15]), if_neg h13]
  split <;> simp_all
  split at * <;> simp_all

theorem memRead16_plain {a : Word} {s : State} (h1 : plainAt a s) (h2 : plainAt (a + 1) s) :
    memRead16 a s = (word (byteAt (a + 1) s) (byteAt a s), s) := by
  simp only [memRead16, byteAt, memRead_plain h1, memRead_plain h2]

end Sys2Proof.Machine
end

