-- ==== Sys2Proof/Laws/Flags.lean ====
section
/-! SUPPORT. What the flag computations do to each flag of a status byte. -/

namespace Sys2Proof.Machine

/-- Writing a flag writes that flag and no other. -/
theorem getFlag_putFlag (f g : Flag) (on : Bool) (p : Byte) :
    getFlag f (putFlag g on p) = if f = g then on else getFlag f p := by
  cases on <;> cases f <;> cases g <;> simp [getFlag, putFlag, Flag.pos, Flag.mask]

/-- The flags a result does not touch. -/
theorem getFlag_nzBits (f : Flag) (r p : Byte) :
    getFlag f (nzBits r p) = if f = .n then isNeg r else if f = .z then isZero r else getFlag f p := by
  cases f <;> simp [nzBits, getFlag_putFlag]

theorem getFlag_aluBits (f : Flag) (r : AluResult) (p : Byte) :
    getFlag f (aluBits r p) =
      if f = .n then r.n else if f = .z then r.z else if f = .v then r.v else if f = .c then r.c
      else getFlag f p := by
  cases f <;> simp [aluBits, getFlag_putFlag]

theorem getFlag_compareBits (f : Flag) (r m p : Byte) :
    getFlag f (compareBits r m p) =
      if f = .n then isNeg (r - m) else if f = .z then decide (r = m) else if f = .c then decide (m ≤ r)
      else getFlag f p := by
  cases f <;> simp [compareBits, getFlag_putFlag]

theorem getFlag_bitBits (f : Flag) (a m p : Byte) :
    getFlag f (bitBits a m p) =
      if f = .v then m.getLsbD 6 else if f = .n then m.getLsbD 7 else if f = .z then isZero (a &&& m)
      else getFlag f p := by
  cases f <;> simp [bitBits, getFlag_putFlag]

theorem getFlag_testBits (f : Flag) (a m p : Byte) :
    getFlag f (testBits a m p) = if f = .z then isZero (a &&& m) else getFlag f p := by
  simp [testBits, getFlag_putFlag]

theorem getFlag_shiftBits (f : Flag) (r : Byte) (out : Bool) (p : Byte) :
    getFlag f (shiftBits r out p) =
      if f = .n then isNeg r else if f = .z then isZero r else if f = .c then out else getFlag f p := by
  cases f <;> simp [shiftBits, getFlag_nzBits, getFlag_putFlag]

/-- `B` and `U` of a status byte. -/
def fixedBits (p : Byte) : Bool × Bool := (getFlag .b p, getFlag .u p)

theorem fixedBits_nzBits (r p : Byte) : fixedBits (nzBits r p) = fixedBits p := by
  simp [fixedBits, getFlag_nzBits]

theorem fixedBits_aluBits (r : AluResult) (p : Byte) : fixedBits (aluBits r p) = fixedBits p := by
  simp [fixedBits, getFlag_aluBits]

theorem fixedBits_compareBits (r m p : Byte) : fixedBits (compareBits r m p) = fixedBits p := by
  simp [fixedBits, getFlag_compareBits]

theorem fixedBits_bitBits (a m p : Byte) : fixedBits (bitBits a m p) = fixedBits p := by
  simp [fixedBits, getFlag_bitBits]

theorem fixedBits_testBits (a m p : Byte) : fixedBits (testBits a m p) = fixedBits p := by
  simp [fixedBits, getFlag_testBits]

theorem fixedBits_shiftBits (r : Byte) (out : Bool) (p : Byte) :
    fixedBits (shiftBits r out p) = fixedBits p := by
  simp [fixedBits, getFlag_shiftBits]

theorem fixedBits_putFlag {f : Flag} (h : f ≠ .b ∧ f ≠ .u) (on : Bool) (p : Byte) :
    fixedBits (putFlag f on p) = fixedBits p := by
  cases f <;> simp_all [fixedBits, getFlag_putFlag]

theorem fixedBits_plpStatus (m p : Byte) : fixedBits (plpStatus m p) = fixedBits p := by
  simp [fixedBits, getFlag, Flag.pos, plpStatus]

theorem fixedBits_rtiStatus (m : Byte) : fixedBits (rtiStatus m) = (false, true) := by
  simp [fixedBits, getFlag, Flag.pos, rtiStatus]

/-- `StatusOk` in terms of the two bits. -/
theorem statusOk_iff (s : State) : StatusOk s ↔ fixedBits s.p = (false, true) := by
  simp [StatusOk, fixedBits, State.flag]

end Sys2Proof.Machine
end

