-- ==== Sys2Proof/Laws/Ops.lean ====
section
/-! SUPPORT. What the shared operations can do, said once: the trap entry, the return from a trap, the
pulses, and the two-byte reads. -/

namespace Sys2Proof.Machine

/-- A vector byte is read from ROM or Cart, so it does not depend on anything else. -/
theorem byteAt_vector {a : Word} (h : 0xFFFA#16 ≤ a) {s t : State} (hr : t.rom = s.rom)
    (hc : t.cart = s.cart) (hp : t.params = s.params) : byteAt a t = byteAt a s := by
  have hv := decodeAddr_vector s.params.cartPresent h
  have h15 : a.getLsbD 15 = true := by
    have : 65530 ≤ a.toNat := by simpa [BitVec.le_def] using h
    simp only [BitVec.getLsbD, Nat.testBit_eq_decide_div_mod_eq, decide_eq_true_eq]
    have := a.isLt; omega
  unfold isPlain at hv
  unfold byteAt memRead
  rw [hp]
  split at hv
  · next c hd =>
    unfold decodeAddr at hd
    rw [if_neg (by simp [h15])] at hd
    split at hd
    · unfold decodeSlot at hd; split at hd <;> cases hd
    · split at hd <;> cases hd
  · next c hd => simp only [hd, hr]
  · next c hd => simp only [hd, hc]
  · cases hv

/-- Everything `TrapEnter` does (R611). -/
theorem trapEnter_eq {v : Word} (hv : 0xFFFA#16 ≤ v) (hv' : 0xFFFA#16 ≤ v + 1) (b : Bool) (s : State) :
    trapEnter v b s =
      { s with
        ram := Memory.write (Memory.write (Memory.write s.ram (256 + s.sp.toNat) (hi s.pc))
          (256 + (s.sp - 1).toNat) (lo s.pc)) (256 + (s.sp - 1 - 1).toNat)
          (trapStatus b (putFlag .i true s.p))
        sp := s.sp - 1 - 1 - 1
        p := putFlag .i true s.p
        pc := vectorWord v s } := by
  have h1 : ∀ t : State, plainAt v t := fun t => decodeAddr_vector _ hv
  have h2 : ∀ t : State, plainAt (v + 1) t := fun t => decodeAddr_vector _ hv'
  simp only [trapEnter, push_eq, State.setFlag]
  rw [memRead16_plain (h1 _) (h2 _)]
  simp only [vectorWord]
  congr 1
  exact congrArg₂ word (byteAt_vector hv' rfl rfl rfl) (byteAt_vector hv rfl rfl rfl)

/-- Everything an IRQ pulse does when `I` is clear (R613). -/
theorem irqPulse_taken {s : State} (h : s.flag .i = false) :
    irqPulse s = (trapEnter irqVector false s).addCycles 7 := by
  simp [irqPulse, h]

/-- An IRQ pulse is lost when `I` is set (R613). -/
theorem irqPulse_lost {s : State} (h : s.flag .i = true) : irqPulse s = s := by
  simp [irqPulse, h]

theorem irqVector_le : 0xFFFA#16 ≤ irqVector ∧ 0xFFFA#16 ≤ irqVector + 1 := by decide

theorem nmiVector_le : 0xFFFA#16 ≤ nmiVector ∧ 0xFFFA#16 ≤ nmiVector + 1 := by decide

theorem resetVector_le : 0xFFFA#16 ≤ resetVector ∧ 0xFFFA#16 ≤ resetVector + 1 := by decide

/-- Everything the return from a trap does (R329). -/
theorem trapReturn_eq (s : State) :
    trapReturn s =
      { s with
        p := rtiStatus (Memory.read s.ram (256 + (s.sp + 1).toNat))
        sp := s.sp + 1 + 1 + 1
        pc := word (Memory.read s.ram (256 + (s.sp + 1 + 1 + 1).toNat))
          (Memory.read s.ram (256 + (s.sp + 1 + 1).toNat)) } := by
  simp only [trapReturn, pull_eq]

/-- What no trap entry changes (R611). -/
theorem trapEnter_frame {v : Word} (hv : 0xFFFA#16 ≤ v) (hv' : 0xFFFA#16 ≤ v + 1) (b : Bool) (s : State) :
    (trapEnter v b s).a = s.a ∧ (trapEnter v b s).x = s.x ∧ (trapEnter v b s).y = s.y ∧
      (trapEnter v b s).rom = s.rom ∧ (trapEnter v b s).cart = s.cart ∧ (trapEnter v b s).vdp = s.vdp ∧
      (trapEnter v b s).snd = s.snd ∧ (trapEnter v b s).via = s.via ∧
      (trapEnter v b s).slots = s.slots ∧ (trapEnter v b s).params = s.params ∧
      (trapEnter v b s).posted = s.posted ∧ (trapEnter v b s).schedAcc = s.schedAcc := by
  rw [trapEnter_eq hv hv']
  exact ⟨rfl, rfl, rfl, rfl, rfl, rfl, rfl, rfl, rfl, rfl, rfl, rfl⟩

/-- The reset of the CPU, spelt out (R670). -/
theorem cpuReset_eq (s : State) :
    cpuReset s =
      { s with
        a := 0x00#8, x := 0x00#8, y := 0x00#8, sp := 0xFD#8, p := 0x20#8
        pc := vectorWord resetVector s, cyclesRemaining := 7, cyclesTotal := 0 } := by
  have h1 : ∀ t : State, plainAt resetVector t := fun t => decodeAddr_vector _ resetVector_le.1
  have h2 : ∀ t : State, plainAt (resetVector + 1) t := fun t => decodeAddr_vector _ resetVector_le.2
  simp only [cpuReset]
  rw [memRead16_plain (h1 _) (h2 _)]
  simp only [vectorWord]
  congr 1
  exact congrArg₂ word (byteAt_vector resetVector_le.2 rfl rfl rfl)
    (byteAt_vector resetVector_le.1 rfl rfl rfl)

end Sys2Proof.Machine
end

