-- ==== Sys2Proof/Laws/Devices.lean ====
section
/-! SUPPORT. What each tick of the device half of the machine tick can do, said once: a device's tick
changes that device, and the pulses it emits change only the CPU and the stack (R110, R112). -/

namespace Sys2Proof.Machine

/-- What no pulse changes: the devices, the stores but RAM, the scheduler, the parameters (R611). -/
structure KeepsDevices (s t : State) : Prop where
  via : t.via = s.via
  snd : t.snd = s.snd
  vdp : t.vdp = s.vdp
  slots : t.slots = s.slots
  params : t.params = s.params
  schedAcc : t.schedAcc = s.schedAcc

theorem KeepsDevices.refl (s : State) : KeepsDevices s s := ⟨rfl, rfl, rfl, rfl, rfl, rfl⟩

theorem KeepsDevices.trans {s t u : State} (h : KeepsDevices s t) (k : KeepsDevices t u) : KeepsDevices s u :=
  ⟨k.via.trans h.via, k.snd.trans h.snd, k.vdp.trans h.vdp, k.slots.trans h.slots, k.params.trans h.params,
    k.schedAcc.trans h.schedAcc⟩

theorem trapEnter_keepsDevices {v : Word} (hv : 0xFFFA#16 ≤ v) (hv' : 0xFFFA#16 ≤ v + 1) (b : Bool)
    (n : Nat) (s : State) : KeepsDevices s ((trapEnter v b s).addCycles n) := by
  obtain ⟨-, -, -, -, -, hvdp, hsnd, hvia, hslots, hparams, -, hacc⟩ := trapEnter_frame hv hv' b s
  exact ⟨hvia, hsnd, hvdp, hslots, hparams, hacc⟩

theorem deliver_keepsDevices (s : State) (p : Pulse) : KeepsDevices s (deliver s p) := by
  cases p
  · unfold deliver irqPulse
    simp only
    split
    · exact .refl s
    · exact trapEnter_keepsDevices irqVector_le.1 irqVector_le.2 false 7 s
  · exact trapEnter_keepsDevices nmiVector_le.1 nmiVector_le.2 false 7 s

theorem deliverAll_keepsDevices (ps : List Pulse) (s : State) : KeepsDevices s (deliverAll ps s) := by
  induction ps generalizing s with
  | nil => exact .refl s
  | cons p ps ih => exact (deliver_keepsDevices s p).trans (ih _)

/-! ### One tick of each device -/

@[simp] theorem cardTick_via (c : CardId) (s : State) : (cardTick c s).via = s.via :=
  (deliverAll_keepsDevices _ _).via
@[simp] theorem cardTick_snd (c : CardId) (s : State) : (cardTick c s).snd = s.snd :=
  (deliverAll_keepsDevices _ _).snd
@[simp] theorem cardTick_vdp (c : CardId) (s : State) : (cardTick c s).vdp = s.vdp :=
  (deliverAll_keepsDevices _ _).vdp
@[simp] theorem cardTick_params (c : CardId) (s : State) : (cardTick c s).params = s.params :=
  (deliverAll_keepsDevices _ _).params
@[simp] theorem cardTick_schedAcc (c : CardId) (s : State) : (cardTick c s).schedAcc = s.schedAcc :=
  (deliverAll_keepsDevices _ _).schedAcc

@[simp] theorem viaTick_via (s : State) : (viaTick s).via = s.via.tick.2 :=
  (deliverAll_keepsDevices _ _).via
@[simp] theorem viaTick_snd (s : State) : (viaTick s).snd = s.snd := (deliverAll_keepsDevices _ _).snd
@[simp] theorem viaTick_vdp (s : State) : (viaTick s).vdp = s.vdp := (deliverAll_keepsDevices _ _).vdp
@[simp] theorem viaTick_params (s : State) : (viaTick s).params = s.params :=
  (deliverAll_keepsDevices _ _).params
@[simp] theorem viaTick_schedAcc (s : State) : (viaTick s).schedAcc = s.schedAcc :=
  (deliverAll_keepsDevices _ _).schedAcc

/-- With `VIA_TICK_EVERY_CYCLE` the VIA has its tick in every machine tick (R110). -/
theorem viaTickAt_every {s : State} (h : s.params.viaTickEveryCycle = true) :
    viaTickAt false s = viaTick s := by simp [viaTickAt, h]

/-- With `VIA_TICK_EVERY_CYCLE` the VIA has no tick among the coarse ones (R110). -/
theorem viaTickAt_coarse {s : State} (h : s.params.viaTickEveryCycle = true) : viaTickAt true s = s := by
  simp [viaTickAt, h]

@[simp] theorem soundTick_via (s : State) : (soundTick s).via = s.via := by simp only [soundTick]
@[simp] theorem soundTick_snd (s : State) : (soundTick s).snd = s.snd.tick s.params := by simp only [soundTick]
@[simp] theorem soundTick_vdp (s : State) : (soundTick s).vdp = s.vdp := by simp only [soundTick]
@[simp] theorem soundTick_params (s : State) : (soundTick s).params = s.params := by simp only [soundTick]
@[simp] theorem soundTick_schedAcc (s : State) : (soundTick s).schedAcc = s.schedAcc := by simp only [soundTick]

/-- What the scanline clock leaves alone. -/
theorem vdpLoop_frame (perLine : Rat) (n : Nat) (s : State) :
    (vdpLoop perLine n s).via = s.via ∧ (vdpLoop perLine n s).snd = s.snd ∧
      (vdpLoop perLine n s).params = s.params ∧ (vdpLoop perLine n s).schedAcc = s.schedAcc := by
  induction n generalizing s with
  | zero => exact ⟨rfl, rfl, rfl, rfl⟩
  | succ n ih =>
    unfold vdpLoop
    split
    · obtain ⟨h1, h2, h3, h4⟩ := ih (vdpTurn perLine s)
      have h := deliverAll_keepsDevices (irqIf (s.vdp.nextLine s.params perLine).1)
        { s with
          vdp := (s.vdp.nextLine s.params perLine).2.2
          frameReady := s.frameReady || (s.vdp.nextLine s.params perLine).2.1 }
      exact ⟨h1.trans h.via, h2.trans h.snd, h3.trans h.params, h4.trans h.schedAcc⟩
    · exact ⟨rfl, rfl, rfl, rfl⟩

@[simp] theorem vdpTick_via (s : State) : (vdpTick s).via = s.via := (vdpLoop_frame _ _ _).1
@[simp] theorem vdpTick_snd (s : State) : (vdpTick s).snd = s.snd := (vdpLoop_frame _ _ _).2.1
@[simp] theorem vdpTick_params (s : State) : (vdpTick s).params = s.params := (vdpLoop_frame _ _ _).2.2.1
@[simp] theorem vdpTick_schedAcc (s : State) : (vdpTick s).schedAcc = s.schedAcc :=
  (vdpLoop_frame _ _ _).2.2.2

end Sys2Proof.Machine
end

