-- ==== Sys2Proof/Laws/Path.lean ====
section
/-! SUPPORT. What one instruction can do to the machine, said once: it goes on, and what it does is a
sequence of bus reads, bus writes and changes of the CPU's own registers. Every invariant of the devices
and the stores is derived from this. -/

namespace Sys2Proof.Machine

/-- Bus cycles and changes of the CPU's own registers lead from a state to another. -/
inductive BusPath (s : State) : State → Prop where
  | refl : BusPath s s
  | cpu {t u : State} : BusPath s t → sameMachine t u → (StatusOk t → StatusOk u) → BusPath s u
  | read {t : State} (a : Word) : BusPath s t → BusPath s (memRead a t).2
  | write {t : State} (a : Word) (x : Byte) : BusPath s t → BusPath s (memWrite a x t)

theorem BusPath.trans {s t u : State} (h : BusPath s t) (k : BusPath t u) : BusPath s u := by
  induction k with
  | refl => exact h
  | cpu _ hm hs ih => exact ih.cpu hm hs
  | read a _ ih => exact ih.read a
  | write a x _ ih => exact ih.write a x

/-- An effect that only makes bus cycles and changes the CPU's own registers. -/
def OnBus (f : State → State) : Prop := ∀ s, BusPath s (f s)

/-- A change of the CPU's own registers that keeps `B` and `U`. -/
theorem OnBus.ofCpu {f : State → State} (hm : ∀ s, sameMachine s (f s))
    (hp : ∀ s, fixedBits (f s).p = fixedBits s.p) : OnBus f := fun s =>
  BusPath.refl.cpu (hm s) fun h => (statusOk_iff _).2 ((hp s).trans ((statusOk_iff _).1 h))

theorem sameMachine_refl (s : State) : sameMachine s s :=
  ⟨rfl, rfl, rfl, rfl, rfl, rfl, rfl, rfl, rfl, rfl, rfl, rfl⟩

/-! ### The shared operations -/

theorem spend_onBus (op : Byte) (n : Nat) : OnBus (State.spend op n) :=
  .ofCpu (fun s => sameMachine_refl s) fun _ => rfl

theorem push_path (x : Byte) (s : State) : BusPath s (push x s) :=
  ((BusPath.refl.write (stackAddr s.sp) x).cpu (u := push x s) (sameMachine_refl _) id)

theorem pull_path (s : State) : BusPath s (pull s).2 :=
  (BusPath.refl.cpu (u := { s with sp := s.sp + 1 }) (sameMachine_refl s) id).read _

theorem setFlag_path {f : Flag} (h : f ≠ .b ∧ f ≠ .u) (on : Bool) (s : State) :
    BusPath s (s.setFlag f on) :=
  OnBus.ofCpu (f := State.setFlag f on) (fun s => sameMachine_refl s)
    (fun s => fixedBits_putFlag h on s.p) s

theorem setPc_path (s : State) (a : Word) : BusPath s { s with pc := a } :=
  BusPath.refl.cpu (sameMachine_refl s) id

theorem memRead16_path (a : Word) (s : State) : BusPath s (memRead16 a s).2 :=
  (BusPath.refl.read a).read (a + 1)

theorem trapEnter_path (v : Word) (b : Bool) (s : State) : BusPath s (trapEnter v b s) := by
  unfold trapEnter
  exact ((((push_path _ s).trans (push_path _ _)).trans (setFlag_path (by decide) true _)).trans
    (push_path _ _)).trans ((memRead16_path v _).trans (setPc_path _ _))

theorem trapReturn_path (s : State) : BusPath s (trapReturn s) := by
  unfold trapReturn
  refine (((pull_path s).cpu (u := { (pull s).2 with p := rtiStatus (pull s).1 })
    (sameMachine_refl _) fun _ => ?_).trans (pull_path _)).trans ((pull_path _).trans (setPc_path _ _))
  exact (statusOk_iff _).2 (fixedBits_rtiStatus _)

theorem addCycles_path (n : Nat) (s : State) : BusPath s (s.addCycles n) :=
  BusPath.refl.cpu (sameMachine_refl s) id

theorem deliver_path (s : State) (p : Pulse) : BusPath s (deliver s p) := by
  cases p
  · unfold deliver irqPulse
    simp only
    split
    · exact .refl
    · exact (trapEnter_path _ _ s).trans (addCycles_path 7 _)
  · exact (trapEnter_path _ _ s).trans (addCycles_path 7 _)

theorem deliverAll_path (ps : List Pulse) (s : State) : BusPath s (deliverAll ps s) := by
  induction ps generalizing s with
  | nil => exact .refl
  | cons p ps ih => exact (deliver_path s p).trans (ih _)

theorem fetch_path (s : State) : BusPath s (fetch s).2 :=
  (BusPath.refl.read s.pc).trans (setPc_path _ _)

theorem fetchInstr_path (s : State) : BusPath s (fetchInstr s).2 := by
  unfold fetchInstr
  simp only
  split
  · exact fetch_path s
  · exact (fetch_path s).trans (fetch_path _)
  · exact ((fetch_path s).trans (fetch_path _)).trans (fetch_path _)

/-! ### The shapes of an instruction -/

/-- A meaning goes on along a bus path. -/
def RunsOn (s : State) (r : Result) : Prop := ∃ t, r = .next t ∧ BusPath s t

theorem runPlain_path (op : Byte) {f : State → State} (h : OnBus f) (s : State) :
    RunsOn s (runPlain op f s) := ⟨_, rfl, (h s).trans (spend_onBus _ _ _)⟩

theorem readOperand_path (o : Operand) (s : State) : BusPath s (readOperand o s).2 := by
  cases o
  · exact .refl
  · exact BusPath.refl.read _

theorem runRead_path (op : Byte) (o : Operand) {f : Byte → State → State} (h : ∀ m, OnBus (f m))
    (s : State) : RunsOn s (runRead op o f s) :=
  ⟨_, rfl, ((readOperand_path o s).trans (h _ _)).trans (spend_onBus _ _ _)⟩

theorem runStore_path (op : Byte) (m : MemMode) (x : Byte) (s : State) :
    RunsOn s (runStore op m x s) := ⟨_, rfl, (BusPath.refl.write _ x).trans (spend_onBus _ _ _)⟩

/-- A step of a read-modify-write instruction keeps `B` and `U`. -/
def KeepsFixed (f : Modify) : Prop := ∀ m s, fixedBits (f m s).2 = fixedBits s.p

theorem runModify_path (op : Byte) (m : MemMode) {f : Modify} (h : KeepsFixed f) (s : State) :
    RunsOn s (runModify op m f s) := by
  refine ⟨_, rfl, ?_⟩
  let t := (memRead (eaOf m s) s).2
  let w := f (memRead (eaOf m s) s).1 t
  refine (((BusPath.refl.read (eaOf m s)).cpu (u := { t with p := w.2 }) (sameMachine_refl t)
    ?_).write (eaOf m s) w.1).trans (spend_onBus _ _ _)
  exact fun k => (statusOk_iff _).2 ((h _ _).trans ((statusOk_iff _).1 k))

theorem onA_onBus {f : Modify} (h : KeepsFixed f) : OnBus (onA f) :=
  .ofCpu (fun s => sameMachine_refl s) fun s => h s.a s

theorem runBranch_path (op d : Byte) (c : Bool) (s : State) : RunsOn s (runBranch op d c s) :=
  ⟨_, rfl, (setPc_path s _).trans (spend_onBus _ _ _)⟩

/-! ### The effects -/

theorem id_onBus : OnBus (fun t => t) := fun _ => .refl

theorem noEffect_onBus : OnBus noEffect := fun _ => .refl

theorem loadA_onBus (m : Byte) : OnBus (loadA m) :=
  .ofCpu (fun s => sameMachine_refl s) fun s => fixedBits_nzBits m s.p

theorem loadX_onBus (m : Byte) : OnBus (loadX m) :=
  .ofCpu (fun s => sameMachine_refl s) fun s => fixedBits_nzBits m s.p

theorem loadY_onBus (m : Byte) : OnBus (loadY m) :=
  .ofCpu (fun s => sameMachine_refl s) fun s => fixedBits_nzBits m s.p

theorem txs_onBus : OnBus (fun t => { t with sp := t.x }) :=
  .ofCpu (fun s => sameMachine_refl s) fun _ => rfl

theorem putAlu_path (r : AluResult) (s : State) : BusPath s (s.putAlu r) :=
  OnBus.ofCpu (f := State.putAlu r) (fun s => sameMachine_refl s) (fun s => fixedBits_aluBits r s.p) s

theorem putFreeAlu_path (s : State) : BusPath s s.putFreeAlu :=
  OnBus.ofCpu (f := State.putFreeAlu) (fun s => sameMachine_refl s)
    (fun s => fixedBits_aluBits (Config.bcdResult s.bcdDrawn) s.p) s

theorem addWithCarry_onBus (m : Byte) : OnBus (addWithCarry m) := fun s => by
  unfold addWithCarry
  split
  · exact putFreeAlu_path s
  · exact putAlu_path _ s

theorem subWithBorrow_onBus (m : Byte) : OnBus (subWithBorrow m) := fun s => by
  unfold subWithBorrow
  split
  · exact putFreeAlu_path s
  · exact putAlu_path _ s

theorem compare_onBus (r : State → Byte) (m : Byte) : OnBus (fun t => compareWith (r t) m t) :=
  .ofCpu (fun s => sameMachine_refl s) fun s => fixedBits_compareBits (r s) m s.p

theorem bitTest_onBus (m : Byte) : OnBus (bitTest m) :=
  .ofCpu (fun s => sameMachine_refl s) fun s => fixedBits_bitBits s.a m s.p

theorem bitTestImm_onBus (m : Byte) : OnBus (bitTestImm m) :=
  .ofCpu (fun s => sameMachine_refl s) fun s => fixedBits_testBits s.a m s.p

theorem incStep_keeps : KeepsFixed incStep := fun m s => fixedBits_nzBits (m + 1) s.p

theorem decStep_keeps : KeepsFixed decStep := fun m s => fixedBits_nzBits (m - 1) s.p

theorem trbStep_keeps : KeepsFixed trbStep := fun m s => fixedBits_testBits s.a m s.p

theorem tsbStep_keeps : KeepsFixed tsbStep := fun m s => fixedBits_testBits s.a m s.p

theorem aslStep_keeps : KeepsFixed aslStep := fun _ _ => fixedBits_shiftBits _ _ _

theorem lsrStep_keeps : KeepsFixed lsrStep := fun _ _ => fixedBits_shiftBits _ _ _

theorem rolStep_keeps : KeepsFixed rolStep := fun _ _ => fixedBits_shiftBits _ _ _

theorem rorStep_keeps : KeepsFixed rorStep := fun _ _ => fixedBits_shiftBits _ _ _

theorem push_onBus (x : State → Byte) : OnBus (fun t => push (x t) t) := fun s => push_path _ s

theorem pullWith_onBus {f : Byte → State → State} (h : ∀ m, OnBus (f m)) :
    OnBus (fun t => f (pull t).1 (pull t).2) := fun s => (pull_path s).trans (h _ _)

theorem plp_onBus : OnBus (fun t => { (pull t).2 with p := plpStatus (pull t).1 t.p }) := fun s => by
  refine (pull_path s).cpu (sameMachine_refl _) fun h => ?_
  refine (statusOk_iff _).2 ((fixedBits_plpStatus _ _).trans ?_)
  have := (statusOk_iff _).1 h
  simpa [pull_eq] using this

theorem jmp_onBus (a : Word) : OnBus (fun t => { t with pc := a }) := fun s => setPc_path s a

theorem jumpVia_onBus (ptr : State → Word) : OnBus (fun t => jumpVia (ptr t) t) := fun s =>
  (memRead16_path _ s).trans (setPc_path _ _)

theorem callTo_onBus (a : Word) : OnBus (callTo a) := fun s =>
  ((push_path _ s).trans (push_path _ _)).trans (setPc_path _ _)

theorem returnFromCall_onBus : OnBus returnFromCall := fun s =>
  ((pull_path s).trans (pull_path _)).trans (setPc_path _ _)

theorem setFlag_onBus {f : Flag} (h : f ≠ .b ∧ f ≠ .u) (on : Bool) : OnBus (State.setFlag f on) :=
  setFlag_path h on

theorem breakTrap_onBus : OnBus breakTrap := fun s => (setPc_path s _).trans (trapEnter_path _ _ _)

theorem trapReturn_onBus : OnBus trapReturn := trapReturn_path

/-! ### Every instruction -/

/-- Every instruction goes on, along a bus path. -/
theorem exec_path (i : Instr) (s : State) : RunsOn s (exec i s) := by
  cases i with
  | brk => exact runPlain_path _ breakTrap_onBus s
  | oraIndX a => exact runRead_path _ _ (fun m => fun t => loadA_onBus (t.a ||| m) t) s
  | nopUnk02 => exact runPlain_path _ noEffect_onBus s
  | nopUnk03 => exact runPlain_path _ noEffect_onBus s
  | tsbZp a => exact runModify_path _ _ tsbStep_keeps s
  | oraZp a => exact runRead_path _ _ (fun m => fun t => loadA_onBus (t.a ||| m) t) s
  | aslZp a => exact runModify_path _ _ aslStep_keeps s
  | nopUnk07 => exact runPlain_path _ noEffect_onBus s
  | php => exact runPlain_path _ (push_onBus fun t => phpStatus t.p) s
  | oraImm v => exact runRead_path _ _ (fun m => fun t => loadA_onBus (t.a ||| m) t) s
  | aslA => exact runPlain_path _ (onA_onBus aslStep_keeps) s
  | nopUnk0B => exact runPlain_path _ noEffect_onBus s
  | tsbAbs a => exact runModify_path _ _ tsbStep_keeps s
  | oraAbs a => exact runRead_path _ _ (fun m => fun t => loadA_onBus (t.a ||| m) t) s
  | aslAbs a => exact runModify_path _ _ aslStep_keeps s
  | nopUnk0F => exact runPlain_path _ noEffect_onBus s
  | bpl d => exact runBranch_path _ _ _ s
  | oraIndY a => exact runRead_path _ _ (fun m => fun t => loadA_onBus (t.a ||| m) t) s
  | oraZpInd a => exact runRead_path _ _ (fun m => fun t => loadA_onBus (t.a ||| m) t) s
  | nopUnk13 => exact runPlain_path _ noEffect_onBus s
  | trbZp a => exact runModify_path _ _ trbStep_keeps s
  | oraZpX a => exact runRead_path _ _ (fun m => fun t => loadA_onBus (t.a ||| m) t) s
  | aslZpX a => exact runModify_path _ _ aslStep_keeps s
  | nopUnk17 => exact runPlain_path _ noEffect_onBus s
  | clc => exact runPlain_path _ (setFlag_onBus (by decide) _) s
  | oraAbsY a => exact runRead_path _ _ (fun m => fun t => loadA_onBus (t.a ||| m) t) s
  | incA => exact runPlain_path _ (onA_onBus incStep_keeps) s
  | nopUnk1B => exact runPlain_path _ noEffect_onBus s
  | trbAbs a => exact runModify_path _ _ trbStep_keeps s
  | oraAbsX a => exact runRead_path _ _ (fun m => fun t => loadA_onBus (t.a ||| m) t) s
  | aslAbsX a => exact runModify_path _ _ aslStep_keeps s
  | nopUnk1F => exact runPlain_path _ noEffect_onBus s
  | jsr a => exact runPlain_path _ (callTo_onBus a) s
  | andIndX a => exact runRead_path _ _ (fun m => fun t => loadA_onBus (t.a &&& m) t) s
  | nopUnk22 => exact runPlain_path _ noEffect_onBus s
  | nopUnk23 => exact runPlain_path _ noEffect_onBus s
  | bitZp a => exact runRead_path _ _ bitTest_onBus s
  | andZp a => exact runRead_path _ _ (fun m => fun t => loadA_onBus (t.a &&& m) t) s
  | rolZp a => exact runModify_path _ _ rolStep_keeps s
  | nopUnk27 => exact runPlain_path _ noEffect_onBus s
  | plp => exact runPlain_path _ plp_onBus s
  | andImm v => exact runRead_path _ _ (fun m => fun t => loadA_onBus (t.a &&& m) t) s
  | rolA => exact runPlain_path _ (onA_onBus rolStep_keeps) s
  | nopUnk2B => exact runPlain_path _ noEffect_onBus s
  | bitAbs a => exact runRead_path _ _ bitTest_onBus s
  | andAbs a => exact runRead_path _ _ (fun m => fun t => loadA_onBus (t.a &&& m) t) s
  | rolAbs a => exact runModify_path _ _ rolStep_keeps s
  | nopUnk2F => exact runPlain_path _ noEffect_onBus s
  | bmi d => exact runBranch_path _ _ _ s
  | andIndY a => exact runRead_path _ _ (fun m => fun t => loadA_onBus (t.a &&& m) t) s
  | andZpInd a => exact runRead_path _ _ (fun m => fun t => loadA_onBus (t.a &&& m) t) s
  | nopUnk33 => exact runPlain_path _ noEffect_onBus s
  | bitZpX a => exact runRead_path _ _ bitTest_onBus s
  | andZpX a => exact runRead_path _ _ (fun m => fun t => loadA_onBus (t.a &&& m) t) s
  | rolZpX a => exact runModify_path _ _ rolStep_keeps s
  | nopUnk37 => exact runPlain_path _ noEffect_onBus s
  | sec => exact runPlain_path _ (setFlag_onBus (by decide) _) s
  | andAbsY a => exact runRead_path _ _ (fun m => fun t => loadA_onBus (t.a &&& m) t) s
  | decA => exact runPlain_path _ (onA_onBus decStep_keeps) s
  | nopUnk3B => exact runPlain_path _ noEffect_onBus s
  | bitAbsX a => exact runRead_path _ _ bitTest_onBus s
  | andAbsX a => exact runRead_path _ _ (fun m => fun t => loadA_onBus (t.a &&& m) t) s
  | rolAbsX a => exact runModify_path _ _ rolStep_keeps s
  | nopUnk3F => exact runPlain_path _ noEffect_onBus s
  | rti => exact runPlain_path _ trapReturn_onBus s
  | eorIndX a => exact runRead_path _ _ (fun m => fun t => loadA_onBus (t.a ^^^ m) t) s
  | nopUnk42 => exact runPlain_path _ noEffect_onBus s
  | nopUnk43 => exact runPlain_path _ noEffect_onBus s
  | nopUnk44 => exact runPlain_path _ noEffect_onBus s
  | eorZp a => exact runRead_path _ _ (fun m => fun t => loadA_onBus (t.a ^^^ m) t) s
  | lsrZp a => exact runModify_path _ _ lsrStep_keeps s
  | nopUnk47 => exact runPlain_path _ noEffect_onBus s
  | pha => exact runPlain_path _ (push_onBus State.a) s
  | eorImm v => exact runRead_path _ _ (fun m => fun t => loadA_onBus (t.a ^^^ m) t) s
  | lsrA => exact runPlain_path _ (onA_onBus lsrStep_keeps) s
  | nopUnk4B => exact runPlain_path _ noEffect_onBus s
  | jmpAbs a => exact runPlain_path _ (jmp_onBus a) s
  | eorAbs a => exact runRead_path _ _ (fun m => fun t => loadA_onBus (t.a ^^^ m) t) s
  | lsrAbs a => exact runModify_path _ _ lsrStep_keeps s
  | nopUnk4F => exact runPlain_path _ noEffect_onBus s
  | bvc d => exact runBranch_path _ _ _ s
  | eorIndY a => exact runRead_path _ _ (fun m => fun t => loadA_onBus (t.a ^^^ m) t) s
  | eorZpInd a => exact runRead_path _ _ (fun m => fun t => loadA_onBus (t.a ^^^ m) t) s
  | nopUnk53 => exact runPlain_path _ noEffect_onBus s
  | nopUnk54 => exact runPlain_path _ noEffect_onBus s
  | eorZpX a => exact runRead_path _ _ (fun m => fun t => loadA_onBus (t.a ^^^ m) t) s
  | lsrZpX a => exact runModify_path _ _ lsrStep_keeps s
  | nopUnk57 => exact runPlain_path _ noEffect_onBus s
  | cli => exact runPlain_path _ (setFlag_onBus (by decide) _) s
  | eorAbsY a => exact runRead_path _ _ (fun m => fun t => loadA_onBus (t.a ^^^ m) t) s
  | phy => exact runPlain_path _ (push_onBus State.y) s
  | nopUnk5B => exact runPlain_path _ noEffect_onBus s
  | nopUnk5C => exact runPlain_path _ noEffect_onBus s
  | eorAbsX a => exact runRead_path _ _ (fun m => fun t => loadA_onBus (t.a ^^^ m) t) s
  | lsrAbsX a => exact runModify_path _ _ lsrStep_keeps s
  | nopUnk5F => exact runPlain_path _ noEffect_onBus s
  | rts => exact runPlain_path _ returnFromCall_onBus s
  | adcIndX a => exact runRead_path _ _ addWithCarry_onBus s
  | nopUnk62 => exact runPlain_path _ noEffect_onBus s
  | nopUnk63 => exact runPlain_path _ noEffect_onBus s
  | stzZp a => exact runStore_path _ _ _ s
  | adcZp a => exact runRead_path _ _ addWithCarry_onBus s
  | rorZp a => exact runModify_path _ _ rorStep_keeps s
  | nopUnk67 => exact runPlain_path _ noEffect_onBus s
  | pla => exact runPlain_path _ (pullWith_onBus loadA_onBus) s
  | adcImm v => exact runRead_path _ _ addWithCarry_onBus s
  | rorA => exact runPlain_path _ (onA_onBus rorStep_keeps) s
  | nopUnk6B => exact runPlain_path _ noEffect_onBus s
  | jmpInd a => exact runPlain_path _ (jumpVia_onBus fun _ => a) s
  | adcAbs a => exact runRead_path _ _ addWithCarry_onBus s
  | rorAbs a => exact runModify_path _ _ rorStep_keeps s
  | nopUnk6F => exact runPlain_path _ noEffect_onBus s
  | bvs d => exact runBranch_path _ _ _ s
  | adcIndY a => exact runRead_path _ _ addWithCarry_onBus s
  | adcZpInd a => exact runRead_path _ _ addWithCarry_onBus s
  | nopUnk73 => exact runPlain_path _ noEffect_onBus s
  | stzZpX a => exact runStore_path _ _ _ s
  | adcZpX a => exact runRead_path _ _ addWithCarry_onBus s
  | rorZpX a => exact runModify_path _ _ rorStep_keeps s
  | nopUnk77 => exact runPlain_path _ noEffect_onBus s
  | sei => exact runPlain_path _ (setFlag_onBus (by decide) _) s
  | adcAbsY a => exact runRead_path _ _ addWithCarry_onBus s
  | ply => exact runPlain_path _ (pullWith_onBus loadY_onBus) s
  | nopUnk7B => exact runPlain_path _ noEffect_onBus s
  | jmpAbsIndX a => exact runPlain_path _ (jumpVia_onBus fun t => a + zext16 t.x) s
  | adcAbsX a => exact runRead_path _ _ addWithCarry_onBus s
  | rorAbsX a => exact runModify_path _ _ rorStep_keeps s
  | nopUnk7F => exact runPlain_path _ noEffect_onBus s
  | bra d => exact runBranch_path _ _ _ s
  | staIndX a => exact runStore_path _ _ _ s
  | nopUnk82 => exact runPlain_path _ noEffect_onBus s
  | nopUnk83 => exact runPlain_path _ noEffect_onBus s
  | styZp a => exact runStore_path _ _ _ s
  | staZp a => exact runStore_path _ _ _ s
  | stxZp a => exact runStore_path _ _ _ s
  | nopUnk87 => exact runPlain_path _ noEffect_onBus s
  | dey => exact runPlain_path _ (fun t => loadY_onBus (t.y - 1) t) s
  | bitImm v => exact runRead_path _ _ bitTestImm_onBus s
  | txa => exact runPlain_path _ (fun t => loadA_onBus t.x t) s
  | nopUnk8B => exact runPlain_path _ noEffect_onBus s
  | styAbs a => exact runStore_path _ _ _ s
  | staAbs a => exact runStore_path _ _ _ s
  | stxAbs a => exact runStore_path _ _ _ s
  | nopUnk8F => exact runPlain_path _ noEffect_onBus s
  | bcc d => exact runBranch_path _ _ _ s
  | staIndY a => exact runStore_path _ _ _ s
  | staZpInd a => exact runStore_path _ _ _ s
  | nopUnk93 => exact runPlain_path _ noEffect_onBus s
  | styZpX a => exact runStore_path _ _ _ s
  | staZpX a => exact runStore_path _ _ _ s
  | stxZpY a => exact runStore_path _ _ _ s
  | nopUnk97 => exact runPlain_path _ noEffect_onBus s
  | tya => exact runPlain_path _ (fun t => loadA_onBus t.y t) s
  | staAbsY a => exact runStore_path _ _ _ s
  | txs => exact runPlain_path _ txs_onBus s
  | nopUnk9B => exact runPlain_path _ noEffect_onBus s
  | stzAbs a => exact runStore_path _ _ _ s
  | staAbsX a => exact runStore_path _ _ _ s
  | stzAbsX a => exact runStore_path _ _ _ s
  | nopUnk9F => exact runPlain_path _ noEffect_onBus s
  | ldyImm v => exact runRead_path _ _ loadY_onBus s
  | ldaIndX a => exact runRead_path _ _ loadA_onBus s
  | ldxImm v => exact runRead_path _ _ loadX_onBus s
  | nopUnkA3 => exact runPlain_path _ noEffect_onBus s
  | ldyZp a => exact runRead_path _ _ loadY_onBus s
  | ldaZp a => exact runRead_path _ _ loadA_onBus s
  | ldxZp a => exact runRead_path _ _ loadX_onBus s
  | nopUnkA7 => exact runPlain_path _ noEffect_onBus s
  | tay => exact runPlain_path _ (fun t => loadY_onBus t.a t) s
  | ldaImm v => exact runRead_path _ _ loadA_onBus s
  | tax => exact runPlain_path _ (fun t => loadX_onBus t.a t) s
  | nopUnkAB => exact runPlain_path _ noEffect_onBus s
  | ldyAbs a => exact runRead_path _ _ loadY_onBus s
  | ldaAbs a => exact runRead_path _ _ loadA_onBus s
  | ldxAbs a => exact runRead_path _ _ loadX_onBus s
  | nopUnkAF => exact runPlain_path _ noEffect_onBus s
  | bcs d => exact runBranch_path _ _ _ s
  | ldaIndY a => exact runRead_path _ _ loadA_onBus s
  | ldaZpInd a => exact runRead_path _ _ loadA_onBus s
  | nopUnkB3 => exact runPlain_path _ noEffect_onBus s
  | ldyZpX a => exact runRead_path _ _ loadY_onBus s
  | ldaZpX a => exact runRead_path _ _ loadA_onBus s
  | ldxZpY a => exact runRead_path _ _ loadX_onBus s
  | nopUnkB7 => exact runPlain_path _ noEffect_onBus s
  | clv => exact runPlain_path _ (setFlag_onBus (by decide) _) s
  | ldaAbsY a => exact runRead_path _ _ loadA_onBus s
  | tsx => exact runPlain_path _ (fun t => loadX_onBus t.sp t) s
  | nopUnkBB => exact runPlain_path _ noEffect_onBus s
  | ldyAbsX a => exact runRead_path _ _ loadY_onBus s
  | ldaAbsX a => exact runRead_path _ _ loadA_onBus s
  | ldxAbsY a => exact runRead_path _ _ loadX_onBus s
  | nopUnkBF => exact runPlain_path _ noEffect_onBus s
  | cpyImm v => exact runRead_path _ _ (compare_onBus State.y) s
  | cmpIndX a => exact runRead_path _ _ (compare_onBus State.a) s
  | nopUnkC2 => exact runPlain_path _ noEffect_onBus s
  | nopUnkC3 => exact runPlain_path _ noEffect_onBus s
  | cpyZp a => exact runRead_path _ _ (compare_onBus State.y) s
  | cmpZp a => exact runRead_path _ _ (compare_onBus State.a) s
  | decZp a => exact runModify_path _ _ decStep_keeps s
  | nopUnkC7 => exact runPlain_path _ noEffect_onBus s
  | iny => exact runPlain_path _ (fun t => loadY_onBus (t.y + 1) t) s
  | cmpImm v => exact runRead_path _ _ (compare_onBus State.a) s
  | dex => exact runPlain_path _ (fun t => loadX_onBus (t.x - 1) t) s
  | nopUnkCB => exact runPlain_path _ noEffect_onBus s
  | cpyAbs a => exact runRead_path _ _ (compare_onBus State.y) s
  | cmpAbs a => exact runRead_path _ _ (compare_onBus State.a) s
  | decAbs a => exact runModify_path _ _ decStep_keeps s
  | nopUnkCF => exact runPlain_path _ noEffect_onBus s
  | bne d => exact runBranch_path _ _ _ s
  | cmpIndY a => exact runRead_path _ _ (compare_onBus State.a) s
  | cmpZpInd a => exact runRead_path _ _ (compare_onBus State.a) s
  | nopUnkD3 => exact runPlain_path _ noEffect_onBus s
  | nopUnkD4 => exact runPlain_path _ noEffect_onBus s
  | cmpZpX a => exact runRead_path _ _ (compare_onBus State.a) s
  | decZpX a => exact runModify_path _ _ decStep_keeps s
  | nopUnkD7 => exact runPlain_path _ noEffect_onBus s
  | cld => exact runPlain_path _ (setFlag_onBus (by decide) _) s
  | cmpAbsY a => exact runRead_path _ _ (compare_onBus State.a) s
  | phx => exact runPlain_path _ (push_onBus State.x) s
  | nopUnkDB => exact runPlain_path _ noEffect_onBus s
  | nopUnkDC => exact runPlain_path _ noEffect_onBus s
  | cmpAbsX a => exact runRead_path _ _ (compare_onBus State.a) s
  | decAbsX a => exact runModify_path _ _ decStep_keeps s
  | nopUnkDF => exact runPlain_path _ noEffect_onBus s
  | cpxImm v => exact runRead_path _ _ (compare_onBus State.x) s
  | sbcIndX a => exact runRead_path _ _ subWithBorrow_onBus s
  | nopUnkE2 => exact runPlain_path _ noEffect_onBus s
  | nopUnkE3 => exact runPlain_path _ noEffect_onBus s
  | cpxZp a => exact runRead_path _ _ (compare_onBus State.x) s
  | sbcZp a => exact runRead_path _ _ subWithBorrow_onBus s
  | incZp a => exact runModify_path _ _ incStep_keeps s
  | nopUnkE7 => exact runPlain_path _ noEffect_onBus s
  | inx => exact runPlain_path _ (fun t => loadX_onBus (t.x + 1) t) s
  | sbcImm v => exact runRead_path _ _ subWithBorrow_onBus s
  | nop => exact runPlain_path _ id_onBus s
  | nopUnkEB => exact runPlain_path _ noEffect_onBus s
  | cpxAbs a => exact runRead_path _ _ (compare_onBus State.x) s
  | sbcAbs a => exact runRead_path _ _ subWithBorrow_onBus s
  | incAbs a => exact runModify_path _ _ incStep_keeps s
  | nopUnkEF => exact runPlain_path _ noEffect_onBus s
  | beq d => exact runBranch_path _ _ _ s
  | sbcIndY a => exact runRead_path _ _ subWithBorrow_onBus s
  | sbcZpInd a => exact runRead_path _ _ subWithBorrow_onBus s
  | nopUnkF3 => exact runPlain_path _ noEffect_onBus s
  | nopUnkF4 => exact runPlain_path _ noEffect_onBus s
  | sbcZpX a => exact runRead_path _ _ subWithBorrow_onBus s
  | incZpX a => exact runModify_path _ _ incStep_keeps s
  | nopUnkF7 => exact runPlain_path _ noEffect_onBus s
  | sed => exact runPlain_path _ (setFlag_onBus (by decide) _) s
  | sbcAbsY a => exact runRead_path _ _ subWithBorrow_onBus s
  | plx => exact runPlain_path _ (pullWith_onBus loadX_onBus) s
  | nopUnkFB => exact runPlain_path _ noEffect_onBus s
  | nopUnkFC => exact runPlain_path _ noEffect_onBus s
  | sbcAbsX a => exact runRead_path _ _ subWithBorrow_onBus s
  | incAbsX a => exact runModify_path _ _ incStep_keeps s
  | nopUnkFF => exact runPlain_path _ noEffect_onBus s

/-- The execution of one instruction with its pulses goes on, along a bus path and a clearing of the posted
pulses. -/
theorem executeInstruction_path (s : State) :
    ∃ t, executeInstruction s = .next { t with posted := [] } ∧ BusPath s t := by
  obtain ⟨t, ht, hp⟩ := exec_path (fetchInstr s).1 (fetchInstr s).2
  refine ⟨deliverAll t.posted t, ?_, ((fetchInstr_path s).trans hp).trans (deliverAll_path _ _)⟩
  simp [executeInstruction, ht, deliverPosted]

end Sys2Proof.Machine
end

