-- ==== Sys2Proof/Laws/Word.lean ====
section
/-! SUPPORT. The word of two bytes and its two bytes. -/

namespace Sys2Proof

/-- The low byte of a word of two bytes. -/
@[simp] theorem lo_word (h l : Byte) : lo (word h l) = l := by
  unfold lo word
  ext k hk
  rw [BitVec.getElem_extractLsb', Nat.zero_add]
  erw [BitVec.getLsbD_append]
  simp [hk]

/-- The high byte of a word of two bytes. -/
@[simp] theorem hi_word (h l : Byte) : hi (word h l) = h := by
  unfold hi word
  ext k hk
  rw [BitVec.getElem_extractLsb']
  erw [BitVec.getLsbD_append]
  simp [hk]

/-- A word is made of its two bytes. -/
@[simp] theorem word_hi_lo (w : Word) : word (hi w) (lo w) = w := by
  unfold word hi lo
  ext k hk
  simp only [BitVec.getElem_append, BitVec.getElem_extractLsb']
  split
  · simp [BitVec.getLsbD_eq_getElem hk]
  · rw [show 8 + (k - 8) = k by omega]
    simp [BitVec.getLsbD_eq_getElem hk]

end Sys2Proof
end

