-- ==== Sys2Proof/Laws/PerInstr.lean ====
section
/-!
SUPPORT. The round trip of one instruction, constructor by constructor: the decoder gives back what the
encoder wrote, and the opcode alone fixes the length (`30_encoding.md` R130, R150).
-/

namespace Sys2Proof.Laws.RoundTrip

/-- The decoder reads the encoded bytes of an instruction back as that instruction, and fetches as many
operand bytes as the encoder wrote. -/
def Statement (i : Instr) : Prop :=
  decodeOp i.opcode (i.encode.getD 1 0x00#8) (i.encode.getD 2 0x00#8) = i ∧
    operandCount i.opcode + 1 = i.length

/-- The round trip of a two-byte instruction, from the cell of the opcode map. -/
theorem twoBytes {op : Byte} {f : Byte → Instr} (a : Byte)
    (hcell : ∀ b1 b2, decodeOp op b1 b2 = f b1)
    (hcode : (f a).encode = [op, a]) (hcount : operandCount op = 1) : Statement (f a) := by
  have hop : (f a).opcode = op := by rw [Instr.opcode, hcode]; rfl
  refine ⟨?_, by rw [hop, hcount, Instr.length, hcode]; rfl⟩
  rw [hop, hcode, hcell]
  rfl

/-- The round trip of a three-byte instruction, from the cell of the opcode map. -/
theorem threeBytes {op : Byte} {f : Word → Instr} (a : Word)
    (hcell : ∀ b1 b2, decodeOp op b1 b2 = f (word b2 b1))
    (hcode : (f a).encode = [op, lo a, hi a]) (hcount : operandCount op = 2) : Statement (f a) := by
  have hop : (f a).opcode = op := by rw [Instr.opcode, hcode]; rfl
  refine ⟨?_, by rw [hop, hcount, Instr.length, hcode]; rfl⟩
  rw [hop, hcode, hcell]
  exact congrArg f (word_hi_lo a)

theorem brk : Statement .brk := ⟨rfl, rfl⟩

theorem oraIndX (a : Byte) : Statement (.oraIndX a) :=
  twoBytes a (fun _ _ => rfl) rfl rfl

theorem nopUnk02 : Statement .nopUnk02 := ⟨rfl, rfl⟩

theorem nopUnk03 : Statement .nopUnk03 := ⟨rfl, rfl⟩

theorem tsbZp (a : Byte) : Statement (.tsbZp a) :=
  twoBytes a (fun _ _ => rfl) rfl rfl

theorem oraZp (a : Byte) : Statement (.oraZp a) :=
  twoBytes a (fun _ _ => rfl) rfl rfl

theorem aslZp (a : Byte) : Statement (.aslZp a) :=
  twoBytes a (fun _ _ => rfl) rfl rfl

theorem nopUnk07 : Statement .nopUnk07 := ⟨rfl, rfl⟩

theorem php : Statement .php := ⟨rfl, rfl⟩

theorem oraImm (v : Byte) : Statement (.oraImm v) :=
  twoBytes v (fun _ _ => rfl) rfl rfl

theorem aslA : Statement .aslA := ⟨rfl, rfl⟩

theorem nopUnk0B : Statement .nopUnk0B := ⟨rfl, rfl⟩

theorem tsbAbs (a : Word) : Statement (.tsbAbs a) :=
  threeBytes a (fun _ _ => rfl) rfl rfl

theorem oraAbs (a : Word) : Statement (.oraAbs a) :=
  threeBytes a (fun _ _ => rfl) rfl rfl

theorem aslAbs (a : Word) : Statement (.aslAbs a) :=
  threeBytes a (fun _ _ => rfl) rfl rfl

theorem nopUnk0F : Statement .nopUnk0F := ⟨rfl, rfl⟩

theorem bpl (d : Byte) : Statement (.bpl d) :=
  twoBytes d (fun _ _ => rfl) rfl rfl

theorem oraIndY (a : Byte) : Statement (.oraIndY a) :=
  twoBytes a (fun _ _ => rfl) rfl rfl

theorem oraZpInd (a : Byte) : Statement (.oraZpInd a) :=
  twoBytes a (fun _ _ => rfl) rfl rfl

theorem nopUnk13 : Statement .nopUnk13 := ⟨rfl, rfl⟩

theorem trbZp (a : Byte) : Statement (.trbZp a) :=
  twoBytes a (fun _ _ => rfl) rfl rfl

theorem oraZpX (a : Byte) : Statement (.oraZpX a) :=
  twoBytes a (fun _ _ => rfl) rfl rfl

theorem aslZpX (a : Byte) : Statement (.aslZpX a) :=
  twoBytes a (fun _ _ => rfl) rfl rfl

theorem nopUnk17 : Statement .nopUnk17 := ⟨rfl, rfl⟩

theorem clc : Statement .clc := ⟨rfl, rfl⟩

theorem oraAbsY (a : Word) : Statement (.oraAbsY a) :=
  threeBytes a (fun _ _ => rfl) rfl rfl

theorem incA : Statement .incA := ⟨rfl, rfl⟩

theorem nopUnk1B : Statement .nopUnk1B := ⟨rfl, rfl⟩

theorem trbAbs (a : Word) : Statement (.trbAbs a) :=
  threeBytes a (fun _ _ => rfl) rfl rfl

theorem oraAbsX (a : Word) : Statement (.oraAbsX a) :=
  threeBytes a (fun _ _ => rfl) rfl rfl

theorem aslAbsX (a : Word) : Statement (.aslAbsX a) :=
  threeBytes a (fun _ _ => rfl) rfl rfl

theorem nopUnk1F : Statement .nopUnk1F := ⟨rfl, rfl⟩

theorem jsr (a : Word) : Statement (.jsr a) :=
  threeBytes a (fun _ _ => rfl) rfl rfl

theorem andIndX (a : Byte) : Statement (.andIndX a) :=
  twoBytes a (fun _ _ => rfl) rfl rfl

theorem nopUnk22 : Statement .nopUnk22 := ⟨rfl, rfl⟩

theorem nopUnk23 : Statement .nopUnk23 := ⟨rfl, rfl⟩

theorem bitZp (a : Byte) : Statement (.bitZp a) :=
  twoBytes a (fun _ _ => rfl) rfl rfl

theorem andZp (a : Byte) : Statement (.andZp a) :=
  twoBytes a (fun _ _ => rfl) rfl rfl

theorem rolZp (a : Byte) : Statement (.rolZp a) :=
  twoBytes a (fun _ _ => rfl) rfl rfl

theorem nopUnk27 : Statement .nopUnk27 := ⟨rfl, rfl⟩

theorem plp : Statement .plp := ⟨rfl, rfl⟩

theorem andImm (v : Byte) : Statement (.andImm v) :=
  twoBytes v (fun _ _ => rfl) rfl rfl

theorem rolA : Statement .rolA := ⟨rfl, rfl⟩

theorem nopUnk2B : Statement .nopUnk2B := ⟨rfl, rfl⟩

theorem bitAbs (a : Word) : Statement (.bitAbs a) :=
  threeBytes a (fun _ _ => rfl) rfl rfl

theorem andAbs (a : Word) : Statement (.andAbs a) :=
  threeBytes a (fun _ _ => rfl) rfl rfl

theorem rolAbs (a : Word) : Statement (.rolAbs a) :=
  threeBytes a (fun _ _ => rfl) rfl rfl

theorem nopUnk2F : Statement .nopUnk2F := ⟨rfl, rfl⟩

theorem bmi (d : Byte) : Statement (.bmi d) :=
  twoBytes d (fun _ _ => rfl) rfl rfl

theorem andIndY (a : Byte) : Statement (.andIndY a) :=
  twoBytes a (fun _ _ => rfl) rfl rfl

theorem andZpInd (a : Byte) : Statement (.andZpInd a) :=
  twoBytes a (fun _ _ => rfl) rfl rfl

theorem nopUnk33 : Statement .nopUnk33 := ⟨rfl, rfl⟩

theorem bitZpX (a : Byte) : Statement (.bitZpX a) :=
  twoBytes a (fun _ _ => rfl) rfl rfl

theorem andZpX (a : Byte) : Statement (.andZpX a) :=
  twoBytes a (fun _ _ => rfl) rfl rfl

theorem rolZpX (a : Byte) : Statement (.rolZpX a) :=
  twoBytes a (fun _ _ => rfl) rfl rfl

theorem nopUnk37 : Statement .nopUnk37 := ⟨rfl, rfl⟩

theorem sec : Statement .sec := ⟨rfl, rfl⟩

theorem andAbsY (a : Word) : Statement (.andAbsY a) :=
  threeBytes a (fun _ _ => rfl) rfl rfl

theorem decA : Statement .decA := ⟨rfl, rfl⟩

theorem nopUnk3B : Statement .nopUnk3B := ⟨rfl, rfl⟩

theorem bitAbsX (a : Word) : Statement (.bitAbsX a) :=
  threeBytes a (fun _ _ => rfl) rfl rfl

theorem andAbsX (a : Word) : Statement (.andAbsX a) :=
  threeBytes a (fun _ _ => rfl) rfl rfl

theorem rolAbsX (a : Word) : Statement (.rolAbsX a) :=
  threeBytes a (fun _ _ => rfl) rfl rfl

theorem nopUnk3F : Statement .nopUnk3F := ⟨rfl, rfl⟩

theorem rti : Statement .rti := ⟨rfl, rfl⟩

theorem eorIndX (a : Byte) : Statement (.eorIndX a) :=
  twoBytes a (fun _ _ => rfl) rfl rfl

theorem nopUnk42 : Statement .nopUnk42 := ⟨rfl, rfl⟩

theorem nopUnk43 : Statement .nopUnk43 := ⟨rfl, rfl⟩

theorem nopUnk44 : Statement .nopUnk44 := ⟨rfl, rfl⟩

theorem eorZp (a : Byte) : Statement (.eorZp a) :=
  twoBytes a (fun _ _ => rfl) rfl rfl

theorem lsrZp (a : Byte) : Statement (.lsrZp a) :=
  twoBytes a (fun _ _ => rfl) rfl rfl

theorem nopUnk47 : Statement .nopUnk47 := ⟨rfl, rfl⟩

theorem pha : Statement .pha := ⟨rfl, rfl⟩

theorem eorImm (v : Byte) : Statement (.eorImm v) :=
  twoBytes v (fun _ _ => rfl) rfl rfl

theorem lsrA : Statement .lsrA := ⟨rfl, rfl⟩

theorem nopUnk4B : Statement .nopUnk4B := ⟨rfl, rfl⟩

theorem jmpAbs (a : Word) : Statement (.jmpAbs a) :=
  threeBytes a (fun _ _ => rfl) rfl rfl

theorem eorAbs (a : Word) : Statement (.eorAbs a) :=
  threeBytes a (fun _ _ => rfl) rfl rfl

theorem lsrAbs (a : Word) : Statement (.lsrAbs a) :=
  threeBytes a (fun _ _ => rfl) rfl rfl

theorem nopUnk4F : Statement .nopUnk4F := ⟨rfl, rfl⟩

theorem bvc (d : Byte) : Statement (.bvc d) :=
  twoBytes d (fun _ _ => rfl) rfl rfl

theorem eorIndY (a : Byte) : Statement (.eorIndY a) :=
  twoBytes a (fun _ _ => rfl) rfl rfl

theorem eorZpInd (a : Byte) : Statement (.eorZpInd a) :=
  twoBytes a (fun _ _ => rfl) rfl rfl

theorem nopUnk53 : Statement .nopUnk53 := ⟨rfl, rfl⟩

theorem nopUnk54 : Statement .nopUnk54 := ⟨rfl, rfl⟩

theorem eorZpX (a : Byte) : Statement (.eorZpX a) :=
  twoBytes a (fun _ _ => rfl) rfl rfl

theorem lsrZpX (a : Byte) : Statement (.lsrZpX a) :=
  twoBytes a (fun _ _ => rfl) rfl rfl

theorem nopUnk57 : Statement .nopUnk57 := ⟨rfl, rfl⟩

theorem cli : Statement .cli := ⟨rfl, rfl⟩

theorem eorAbsY (a : Word) : Statement (.eorAbsY a) :=
  threeBytes a (fun _ _ => rfl) rfl rfl

theorem phy : Statement .phy := ⟨rfl, rfl⟩

theorem nopUnk5B : Statement .nopUnk5B := ⟨rfl, rfl⟩

theorem nopUnk5C : Statement .nopUnk5C := ⟨rfl, rfl⟩

theorem eorAbsX (a : Word) : Statement (.eorAbsX a) :=
  threeBytes a (fun _ _ => rfl) rfl rfl

theorem lsrAbsX (a : Word) : Statement (.lsrAbsX a) :=
  threeBytes a (fun _ _ => rfl) rfl rfl

theorem nopUnk5F : Statement .nopUnk5F := ⟨rfl, rfl⟩

theorem rts : Statement .rts := ⟨rfl, rfl⟩

theorem adcIndX (a : Byte) : Statement (.adcIndX a) :=
  twoBytes a (fun _ _ => rfl) rfl rfl

theorem nopUnk62 : Statement .nopUnk62 := ⟨rfl, rfl⟩

theorem nopUnk63 : Statement .nopUnk63 := ⟨rfl, rfl⟩

theorem stzZp (a : Byte) : Statement (.stzZp a) :=
  twoBytes a (fun _ _ => rfl) rfl rfl

theorem adcZp (a : Byte) : Statement (.adcZp a) :=
  twoBytes a (fun _ _ => rfl) rfl rfl

theorem rorZp (a : Byte) : Statement (.rorZp a) :=
  twoBytes a (fun _ _ => rfl) rfl rfl

theorem nopUnk67 : Statement .nopUnk67 := ⟨rfl, rfl⟩

theorem pla : Statement .pla := ⟨rfl, rfl⟩

theorem adcImm (v : Byte) : Statement (.adcImm v) :=
  twoBytes v (fun _ _ => rfl) rfl rfl

theorem rorA : Statement .rorA := ⟨rfl, rfl⟩

theorem nopUnk6B : Statement .nopUnk6B := ⟨rfl, rfl⟩

theorem jmpInd (a : Word) : Statement (.jmpInd a) :=
  threeBytes a (fun _ _ => rfl) rfl rfl

theorem adcAbs (a : Word) : Statement (.adcAbs a) :=
  threeBytes a (fun _ _ => rfl) rfl rfl

theorem rorAbs (a : Word) : Statement (.rorAbs a) :=
  threeBytes a (fun _ _ => rfl) rfl rfl

theorem nopUnk6F : Statement .nopUnk6F := ⟨rfl, rfl⟩

theorem bvs (d : Byte) : Statement (.bvs d) :=
  twoBytes d (fun _ _ => rfl) rfl rfl

theorem adcIndY (a : Byte) : Statement (.adcIndY a) :=
  twoBytes a (fun _ _ => rfl) rfl rfl

theorem adcZpInd (a : Byte) : Statement (.adcZpInd a) :=
  twoBytes a (fun _ _ => rfl) rfl rfl

theorem nopUnk73 : Statement .nopUnk73 := ⟨rfl, rfl⟩

theorem stzZpX (a : Byte) : Statement (.stzZpX a) :=
  twoBytes a (fun _ _ => rfl) rfl rfl

theorem adcZpX (a : Byte) : Statement (.adcZpX a) :=
  twoBytes a (fun _ _ => rfl) rfl rfl

theorem rorZpX (a : Byte) : Statement (.rorZpX a) :=
  twoBytes a (fun _ _ => rfl) rfl rfl

theorem nopUnk77 : Statement .nopUnk77 := ⟨rfl, rfl⟩

theorem sei : Statement .sei := ⟨rfl, rfl⟩

theorem adcAbsY (a : Word) : Statement (.adcAbsY a) :=
  threeBytes a (fun _ _ => rfl) rfl rfl

theorem ply : Statement .ply := ⟨rfl, rfl⟩

theorem nopUnk7B : Statement .nopUnk7B := ⟨rfl, rfl⟩

theorem jmpAbsIndX (a : Word) : Statement (.jmpAbsIndX a) :=
  threeBytes a (fun _ _ => rfl) rfl rfl

theorem adcAbsX (a : Word) : Statement (.adcAbsX a) :=
  threeBytes a (fun _ _ => rfl) rfl rfl

theorem rorAbsX (a : Word) : Statement (.rorAbsX a) :=
  threeBytes a (fun _ _ => rfl) rfl rfl

theorem nopUnk7F : Statement .nopUnk7F := ⟨rfl, rfl⟩

theorem bra (d : Byte) : Statement (.bra d) :=
  twoBytes d (fun _ _ => rfl) rfl rfl

theorem staIndX (a : Byte) : Statement (.staIndX a) :=
  twoBytes a (fun _ _ => rfl) rfl rfl

theorem nopUnk82 : Statement .nopUnk82 := ⟨rfl, rfl⟩

theorem nopUnk83 : Statement .nopUnk83 := ⟨rfl, rfl⟩

theorem styZp (a : Byte) : Statement (.styZp a) :=
  twoBytes a (fun _ _ => rfl) rfl rfl

theorem staZp (a : Byte) : Statement (.staZp a) :=
  twoBytes a (fun _ _ => rfl) rfl rfl

theorem stxZp (a : Byte) : Statement (.stxZp a) :=
  twoBytes a (fun _ _ => rfl) rfl rfl

theorem nopUnk87 : Statement .nopUnk87 := ⟨rfl, rfl⟩

theorem dey : Statement .dey := ⟨rfl, rfl⟩

theorem bitImm (v : Byte) : Statement (.bitImm v) :=
  twoBytes v (fun _ _ => rfl) rfl rfl

theorem txa : Statement .txa := ⟨rfl, rfl⟩

theorem nopUnk8B : Statement .nopUnk8B := ⟨rfl, rfl⟩

theorem styAbs (a : Word) : Statement (.styAbs a) :=
  threeBytes a (fun _ _ => rfl) rfl rfl

theorem staAbs (a : Word) : Statement (.staAbs a) :=
  threeBytes a (fun _ _ => rfl) rfl rfl

theorem stxAbs (a : Word) : Statement (.stxAbs a) :=
  threeBytes a (fun _ _ => rfl) rfl rfl

theorem nopUnk8F : Statement .nopUnk8F := ⟨rfl, rfl⟩

theorem bcc (d : Byte) : Statement (.bcc d) :=
  twoBytes d (fun _ _ => rfl) rfl rfl

theorem staIndY (a : Byte) : Statement (.staIndY a) :=
  twoBytes a (fun _ _ => rfl) rfl rfl

theorem staZpInd (a : Byte) : Statement (.staZpInd a) :=
  twoBytes a (fun _ _ => rfl) rfl rfl

theorem nopUnk93 : Statement .nopUnk93 := ⟨rfl, rfl⟩

theorem styZpX (a : Byte) : Statement (.styZpX a) :=
  twoBytes a (fun _ _ => rfl) rfl rfl

theorem staZpX (a : Byte) : Statement (.staZpX a) :=
  twoBytes a (fun _ _ => rfl) rfl rfl

theorem stxZpY (a : Byte) : Statement (.stxZpY a) :=
  twoBytes a (fun _ _ => rfl) rfl rfl

theorem nopUnk97 : Statement .nopUnk97 := ⟨rfl, rfl⟩

theorem tya : Statement .tya := ⟨rfl, rfl⟩

theorem staAbsY (a : Word) : Statement (.staAbsY a) :=
  threeBytes a (fun _ _ => rfl) rfl rfl

theorem txs : Statement .txs := ⟨rfl, rfl⟩

theorem nopUnk9B : Statement .nopUnk9B := ⟨rfl, rfl⟩

theorem stzAbs (a : Word) : Statement (.stzAbs a) :=
  threeBytes a (fun _ _ => rfl) rfl rfl

theorem staAbsX (a : Word) : Statement (.staAbsX a) :=
  threeBytes a (fun _ _ => rfl) rfl rfl

theorem stzAbsX (a : Word) : Statement (.stzAbsX a) :=
  threeBytes a (fun _ _ => rfl) rfl rfl

theorem nopUnk9F : Statement .nopUnk9F := ⟨rfl, rfl⟩

theorem ldyImm (v : Byte) : Statement (.ldyImm v) :=
  twoBytes v (fun _ _ => rfl) rfl rfl

theorem ldaIndX (a : Byte) : Statement (.ldaIndX a) :=
  twoBytes a (fun _ _ => rfl) rfl rfl

theorem ldxImm (v : Byte) : Statement (.ldxImm v) :=
  twoBytes v (fun _ _ => rfl) rfl rfl

theorem nopUnkA3 : Statement .nopUnkA3 := ⟨rfl, rfl⟩

theorem ldyZp (a : Byte) : Statement (.ldyZp a) :=
  twoBytes a (fun _ _ => rfl) rfl rfl

theorem ldaZp (a : Byte) : Statement (.ldaZp a) :=
  twoBytes a (fun _ _ => rfl) rfl rfl

theorem ldxZp (a : Byte) : Statement (.ldxZp a) :=
  twoBytes a (fun _ _ => rfl) rfl rfl

theorem nopUnkA7 : Statement .nopUnkA7 := ⟨rfl, rfl⟩

theorem tay : Statement .tay := ⟨rfl, rfl⟩

theorem ldaImm (v : Byte) : Statement (.ldaImm v) :=
  twoBytes v (fun _ _ => rfl) rfl rfl

theorem tax : Statement .tax := ⟨rfl, rfl⟩

theorem nopUnkAB : Statement .nopUnkAB := ⟨rfl, rfl⟩

theorem ldyAbs (a : Word) : Statement (.ldyAbs a) :=
  threeBytes a (fun _ _ => rfl) rfl rfl

theorem ldaAbs (a : Word) : Statement (.ldaAbs a) :=
  threeBytes a (fun _ _ => rfl) rfl rfl

theorem ldxAbs (a : Word) : Statement (.ldxAbs a) :=
  threeBytes a (fun _ _ => rfl) rfl rfl

theorem nopUnkAF : Statement .nopUnkAF := ⟨rfl, rfl⟩

theorem bcs (d : Byte) : Statement (.bcs d) :=
  twoBytes d (fun _ _ => rfl) rfl rfl

theorem ldaIndY (a : Byte) : Statement (.ldaIndY a) :=
  twoBytes a (fun _ _ => rfl) rfl rfl

theorem ldaZpInd (a : Byte) : Statement (.ldaZpInd a) :=
  twoBytes a (fun _ _ => rfl) rfl rfl

theorem nopUnkB3 : Statement .nopUnkB3 := ⟨rfl, rfl⟩

theorem ldyZpX (a : Byte) : Statement (.ldyZpX a) :=
  twoBytes a (fun _ _ => rfl) rfl rfl

theorem ldaZpX (a : Byte) : Statement (.ldaZpX a) :=
  twoBytes a (fun _ _ => rfl) rfl rfl

theorem ldxZpY (a : Byte) : Statement (.ldxZpY a) :=
  twoBytes a (fun _ _ => rfl) rfl rfl

theorem nopUnkB7 : Statement .nopUnkB7 := ⟨rfl, rfl⟩

theorem clv : Statement .clv := ⟨rfl, rfl⟩

theorem ldaAbsY (a : Word) : Statement (.ldaAbsY a) :=
  threeBytes a (fun _ _ => rfl) rfl rfl

theorem tsx : Statement .tsx := ⟨rfl, rfl⟩

theorem nopUnkBB : Statement .nopUnkBB := ⟨rfl, rfl⟩

theorem ldyAbsX (a : Word) : Statement (.ldyAbsX a) :=
  threeBytes a (fun _ _ => rfl) rfl rfl

theorem ldaAbsX (a : Word) : Statement (.ldaAbsX a) :=
  threeBytes a (fun _ _ => rfl) rfl rfl

theorem ldxAbsY (a : Word) : Statement (.ldxAbsY a) :=
  threeBytes a (fun _ _ => rfl) rfl rfl

theorem nopUnkBF : Statement .nopUnkBF := ⟨rfl, rfl⟩

theorem cpyImm (v : Byte) : Statement (.cpyImm v) :=
  twoBytes v (fun _ _ => rfl) rfl rfl

theorem cmpIndX (a : Byte) : Statement (.cmpIndX a) :=
  twoBytes a (fun _ _ => rfl) rfl rfl

theorem nopUnkC2 : Statement .nopUnkC2 := ⟨rfl, rfl⟩

theorem nopUnkC3 : Statement .nopUnkC3 := ⟨rfl, rfl⟩

theorem cpyZp (a : Byte) : Statement (.cpyZp a) :=
  twoBytes a (fun _ _ => rfl) rfl rfl

theorem cmpZp (a : Byte) : Statement (.cmpZp a) :=
  twoBytes a (fun _ _ => rfl) rfl rfl

theorem decZp (a : Byte) : Statement (.decZp a) :=
  twoBytes a (fun _ _ => rfl) rfl rfl

theorem nopUnkC7 : Statement .nopUnkC7 := ⟨rfl, rfl⟩

theorem iny : Statement .iny := ⟨rfl, rfl⟩

theorem cmpImm (v : Byte) : Statement (.cmpImm v) :=
  twoBytes v (fun _ _ => rfl) rfl rfl

theorem dex : Statement .dex := ⟨rfl, rfl⟩

theorem nopUnkCB : Statement .nopUnkCB := ⟨rfl, rfl⟩

theorem cpyAbs (a : Word) : Statement (.cpyAbs a) :=
  threeBytes a (fun _ _ => rfl) rfl rfl

theorem cmpAbs (a : Word) : Statement (.cmpAbs a) :=
  threeBytes a (fun _ _ => rfl) rfl rfl

theorem decAbs (a : Word) : Statement (.decAbs a) :=
  threeBytes a (fun _ _ => rfl) rfl rfl

theorem nopUnkCF : Statement .nopUnkCF := ⟨rfl, rfl⟩

theorem bne (d : Byte) : Statement (.bne d) :=
  twoBytes d (fun _ _ => rfl) rfl rfl

theorem cmpIndY (a : Byte) : Statement (.cmpIndY a) :=
  twoBytes a (fun _ _ => rfl) rfl rfl

theorem cmpZpInd (a : Byte) : Statement (.cmpZpInd a) :=
  twoBytes a (fun _ _ => rfl) rfl rfl

theorem nopUnkD3 : Statement .nopUnkD3 := ⟨rfl, rfl⟩

theorem nopUnkD4 : Statement .nopUnkD4 := ⟨rfl, rfl⟩

theorem cmpZpX (a : Byte) : Statement (.cmpZpX a) :=
  twoBytes a (fun _ _ => rfl) rfl rfl

theorem decZpX (a : Byte) : Statement (.decZpX a) :=
  twoBytes a (fun _ _ => rfl) rfl rfl

theorem nopUnkD7 : Statement .nopUnkD7 := ⟨rfl, rfl⟩

theorem cld : Statement .cld := ⟨rfl, rfl⟩

theorem cmpAbsY (a : Word) : Statement (.cmpAbsY a) :=
  threeBytes a (fun _ _ => rfl) rfl rfl

theorem phx : Statement .phx := ⟨rfl, rfl⟩

theorem nopUnkDB : Statement .nopUnkDB := ⟨rfl, rfl⟩

theorem nopUnkDC : Statement .nopUnkDC := ⟨rfl, rfl⟩

theorem cmpAbsX (a : Word) : Statement (.cmpAbsX a) :=
  threeBytes a (fun _ _ => rfl) rfl rfl

theorem decAbsX (a : Word) : Statement (.decAbsX a) :=
  threeBytes a (fun _ _ => rfl) rfl rfl

theorem nopUnkDF : Statement .nopUnkDF := ⟨rfl, rfl⟩

theorem cpxImm (v : Byte) : Statement (.cpxImm v) :=
  twoBytes v (fun _ _ => rfl) rfl rfl

theorem sbcIndX (a : Byte) : Statement (.sbcIndX a) :=
  twoBytes a (fun _ _ => rfl) rfl rfl

theorem nopUnkE2 : Statement .nopUnkE2 := ⟨rfl, rfl⟩

theorem nopUnkE3 : Statement .nopUnkE3 := ⟨rfl, rfl⟩

theorem cpxZp (a : Byte) : Statement (.cpxZp a) :=
  twoBytes a (fun _ _ => rfl) rfl rfl

theorem sbcZp (a : Byte) : Statement (.sbcZp a) :=
  twoBytes a (fun _ _ => rfl) rfl rfl

theorem incZp (a : Byte) : Statement (.incZp a) :=
  twoBytes a (fun _ _ => rfl) rfl rfl

theorem nopUnkE7 : Statement .nopUnkE7 := ⟨rfl, rfl⟩

theorem inx : Statement .inx := ⟨rfl, rfl⟩

theorem sbcImm (v : Byte) : Statement (.sbcImm v) :=
  twoBytes v (fun _ _ => rfl) rfl rfl

theorem nop : Statement .nop := ⟨rfl, rfl⟩

theorem nopUnkEB : Statement .nopUnkEB := ⟨rfl, rfl⟩

theorem cpxAbs (a : Word) : Statement (.cpxAbs a) :=
  threeBytes a (fun _ _ => rfl) rfl rfl

theorem sbcAbs (a : Word) : Statement (.sbcAbs a) :=
  threeBytes a (fun _ _ => rfl) rfl rfl

theorem incAbs (a : Word) : Statement (.incAbs a) :=
  threeBytes a (fun _ _ => rfl) rfl rfl

theorem nopUnkEF : Statement .nopUnkEF := ⟨rfl, rfl⟩

theorem beq (d : Byte) : Statement (.beq d) :=
  twoBytes d (fun _ _ => rfl) rfl rfl

theorem sbcIndY (a : Byte) : Statement (.sbcIndY a) :=
  twoBytes a (fun _ _ => rfl) rfl rfl

theorem sbcZpInd (a : Byte) : Statement (.sbcZpInd a) :=
  twoBytes a (fun _ _ => rfl) rfl rfl

theorem nopUnkF3 : Statement .nopUnkF3 := ⟨rfl, rfl⟩

theorem nopUnkF4 : Statement .nopUnkF4 := ⟨rfl, rfl⟩

theorem sbcZpX (a : Byte) : Statement (.sbcZpX a) :=
  twoBytes a (fun _ _ => rfl) rfl rfl

theorem incZpX (a : Byte) : Statement (.incZpX a) :=
  twoBytes a (fun _ _ => rfl) rfl rfl

theorem nopUnkF7 : Statement .nopUnkF7 := ⟨rfl, rfl⟩

theorem sed : Statement .sed := ⟨rfl, rfl⟩

theorem sbcAbsY (a : Word) : Statement (.sbcAbsY a) :=
  threeBytes a (fun _ _ => rfl) rfl rfl

theorem plx : Statement .plx := ⟨rfl, rfl⟩

theorem nopUnkFB : Statement .nopUnkFB := ⟨rfl, rfl⟩

theorem nopUnkFC : Statement .nopUnkFC := ⟨rfl, rfl⟩

theorem sbcAbsX (a : Word) : Statement (.sbcAbsX a) :=
  threeBytes a (fun _ _ => rfl) rfl rfl

theorem incAbsX (a : Word) : Statement (.incAbsX a) :=
  threeBytes a (fun _ _ => rfl) rfl rfl

theorem nopUnkFF : Statement .nopUnkFF := ⟨rfl, rfl⟩

end Sys2Proof.Laws.RoundTrip
end

