-- ==== Sys2Proof/Tests/Slice0.lean ====
section
/-! SUPPORT. The author's own tests: decoding of words written from the spec's opcode map, the checks of
`Params.wf`, the spec's one-step vectors (`95_test_vectors.md`), and a witness for the hypotheses of every
obligation. -/

namespace Sys2Proof.Tests

open Sys2Proof Sys2Proof.Machine

set_option Elab.async false

/-! ### Decoding: every word of the opcode map of R150, operand bytes 34 12 (R130, R151, R153) -/

/-- Row `0x`. -/
theorem test_decode_row_0 :
    [decode [0x00#8], decode [0x01#8, 0x34#8], decode [0x02#8],
     decode [0x03#8], decode [0x04#8, 0x34#8], decode [0x05#8, 0x34#8],
     decode [0x06#8, 0x34#8], decode [0x07#8], decode [0x08#8],
     decode [0x09#8, 0x34#8], decode [0x0A#8], decode [0x0B#8],
     decode [0x0C#8, 0x34#8, 0x12#8], decode [0x0D#8, 0x34#8, 0x12#8], decode [0x0E#8, 0x34#8, 0x12#8],
     decode [0x0F#8]] =
    [.ok (.brk, []), .ok (.oraIndX 0x34#8, []), .ok (.nopUnk02, []), .ok (.nopUnk03, []),
     .ok (.tsbZp 0x34#8, []), .ok (.oraZp 0x34#8, []), .ok (.aslZp 0x34#8, []), .ok (.nopUnk07, []),
     .ok (.php, []), .ok (.oraImm 0x34#8, []), .ok (.aslA, []), .ok (.nopUnk0B, []),
     .ok (.tsbAbs 0x1234#16, []), .ok (.oraAbs 0x1234#16, []), .ok (.aslAbs 0x1234#16, []), .ok (.nopUnk0F, [])] := rfl

/-- Row `1x`. -/
theorem test_decode_row_1 :
    [decode [0x10#8, 0x34#8], decode [0x11#8, 0x34#8], decode [0x12#8, 0x34#8],
     decode [0x13#8], decode [0x14#8, 0x34#8], decode [0x15#8, 0x34#8],
     decode [0x16#8, 0x34#8], decode [0x17#8], decode [0x18#8],
     decode [0x19#8, 0x34#8, 0x12#8], decode [0x1A#8], decode [0x1B#8],
     decode [0x1C#8, 0x34#8, 0x12#8], decode [0x1D#8, 0x34#8, 0x12#8], decode [0x1E#8, 0x34#8, 0x12#8],
     decode [0x1F#8]] =
    [.ok (.bpl 0x34#8, []), .ok (.oraIndY 0x34#8, []), .ok (.oraZpInd 0x34#8, []), .ok (.nopUnk13, []),
     .ok (.trbZp 0x34#8, []), .ok (.oraZpX 0x34#8, []), .ok (.aslZpX 0x34#8, []), .ok (.nopUnk17, []),
     .ok (.clc, []), .ok (.oraAbsY 0x1234#16, []), .ok (.incA, []), .ok (.nopUnk1B, []),
     .ok (.trbAbs 0x1234#16, []), .ok (.oraAbsX 0x1234#16, []), .ok (.aslAbsX 0x1234#16, []), .ok (.nopUnk1F, [])] := rfl

/-- Row `2x`. -/
theorem test_decode_row_2 :
    [decode [0x20#8, 0x34#8, 0x12#8], decode [0x21#8, 0x34#8], decode [0x22#8],
     decode [0x23#8], decode [0x24#8, 0x34#8], decode [0x25#8, 0x34#8],
     decode [0x26#8, 0x34#8], decode [0x27#8], decode [0x28#8],
     decode [0x29#8, 0x34#8], decode [0x2A#8], decode [0x2B#8],
     decode [0x2C#8, 0x34#8, 0x12#8], decode [0x2D#8, 0x34#8, 0x12#8], decode [0x2E#8, 0x34#8, 0x12#8],
     decode [0x2F#8]] =
    [.ok (.jsr 0x1234#16, []), .ok (.andIndX 0x34#8, []), .ok (.nopUnk22, []), .ok (.nopUnk23, []),
     .ok (.bitZp 0x34#8, []), .ok (.andZp 0x34#8, []), .ok (.rolZp 0x34#8, []), .ok (.nopUnk27, []),
     .ok (.plp, []), .ok (.andImm 0x34#8, []), .ok (.rolA, []), .ok (.nopUnk2B, []),
     .ok (.bitAbs 0x1234#16, []), .ok (.andAbs 0x1234#16, []), .ok (.rolAbs 0x1234#16, []), .ok (.nopUnk2F, [])] := rfl

/-- Row `3x`. -/
theorem test_decode_row_3 :
    [decode [0x30#8, 0x34#8], decode [0x31#8, 0x34#8], decode [0x32#8, 0x34#8],
     decode [0x33#8], decode [0x34#8, 0x34#8], decode [0x35#8, 0x34#8],
     decode [0x36#8, 0x34#8], decode [0x37#8], decode [0x38#8],
     decode [0x39#8, 0x34#8, 0x12#8], decode [0x3A#8], decode [0x3B#8],
     decode [0x3C#8, 0x34#8, 0x12#8], decode [0x3D#8, 0x34#8, 0x12#8], decode [0x3E#8, 0x34#8, 0x12#8],
     decode [0x3F#8]] =
    [.ok (.bmi 0x34#8, []), .ok (.andIndY 0x34#8, []), .ok (.andZpInd 0x34#8, []), .ok (.nopUnk33, []),
     .ok (.bitZpX 0x34#8, []), .ok (.andZpX 0x34#8, []), .ok (.rolZpX 0x34#8, []), .ok (.nopUnk37, []),
     .ok (.sec, []), .ok (.andAbsY 0x1234#16, []), .ok (.decA, []), .ok (.nopUnk3B, []),
     .ok (.bitAbsX 0x1234#16, []), .ok (.andAbsX 0x1234#16, []), .ok (.rolAbsX 0x1234#16, []), .ok (.nopUnk3F, [])] := rfl

/-- Row `4x`. -/
theorem test_decode_row_4 :
    [decode [0x40#8], decode [0x41#8, 0x34#8], decode [0x42#8],
     decode [0x43#8], decode [0x44#8], decode [0x45#8, 0x34#8],
     decode [0x46#8, 0x34#8], decode [0x47#8], decode [0x48#8],
     decode [0x49#8, 0x34#8], decode [0x4A#8], decode [0x4B#8],
     decode [0x4C#8, 0x34#8, 0x12#8], decode [0x4D#8, 0x34#8, 0x12#8], decode [0x4E#8, 0x34#8, 0x12#8],
     decode [0x4F#8]] =
    [.ok (.rti, []), .ok (.eorIndX 0x34#8, []), .ok (.nopUnk42, []), .ok (.nopUnk43, []),
     .ok (.nopUnk44, []), .ok (.eorZp 0x34#8, []), .ok (.lsrZp 0x34#8, []), .ok (.nopUnk47, []),
     .ok (.pha, []), .ok (.eorImm 0x34#8, []), .ok (.lsrA, []), .ok (.nopUnk4B, []),
     .ok (.jmpAbs 0x1234#16, []), .ok (.eorAbs 0x1234#16, []), .ok (.lsrAbs 0x1234#16, []), .ok (.nopUnk4F, [])] := rfl

/-- Row `5x`. -/
theorem test_decode_row_5 :
    [decode [0x50#8, 0x34#8], decode [0x51#8, 0x34#8], decode [0x52#8, 0x34#8],
     decode [0x53#8], decode [0x54#8], decode [0x55#8, 0x34#8],
     decode [0x56#8, 0x34#8], decode [0x57#8], decode [0x58#8],
     decode [0x59#8, 0x34#8, 0x12#8], decode [0x5A#8], decode [0x5B#8],
     decode [0x5C#8], decode [0x5D#8, 0x34#8, 0x12#8], decode [0x5E#8, 0x34#8, 0x12#8],
     decode [0x5F#8]] =
    [.ok (.bvc 0x34#8, []), .ok (.eorIndY 0x34#8, []), .ok (.eorZpInd 0x34#8, []), .ok (.nopUnk53, []),
     .ok (.nopUnk54, []), .ok (.eorZpX 0x34#8, []), .ok (.lsrZpX 0x34#8, []), .ok (.nopUnk57, []),
     .ok (.cli, []), .ok (.eorAbsY 0x1234#16, []), .ok (.phy, []), .ok (.nopUnk5B, []),
     .ok (.nopUnk5C, []), .ok (.eorAbsX 0x1234#16, []), .ok (.lsrAbsX 0x1234#16, []), .ok (.nopUnk5F, [])] := rfl

/-- Row `6x`. -/
theorem test_decode_row_6 :
    [decode [0x60#8], decode [0x61#8, 0x34#8], decode [0x62#8],
     decode [0x63#8], decode [0x64#8, 0x34#8], decode [0x65#8, 0x34#8],
     decode [0x66#8, 0x34#8], decode [0x67#8], decode [0x68#8],
     decode [0x69#8, 0x34#8], decode [0x6A#8], decode [0x6B#8],
     decode [0x6C#8, 0x34#8, 0x12#8], decode [0x6D#8, 0x34#8, 0x12#8], decode [0x6E#8, 0x34#8, 0x12#8],
     decode [0x6F#8]] =
    [.ok (.rts, []), .ok (.adcIndX 0x34#8, []), .ok (.nopUnk62, []), .ok (.nopUnk63, []),
     .ok (.stzZp 0x34#8, []), .ok (.adcZp 0x34#8, []), .ok (.rorZp 0x34#8, []), .ok (.nopUnk67, []),
     .ok (.pla, []), .ok (.adcImm 0x34#8, []), .ok (.rorA, []), .ok (.nopUnk6B, []),
     .ok (.jmpInd 0x1234#16, []), .ok (.adcAbs 0x1234#16, []), .ok (.rorAbs 0x1234#16, []), .ok (.nopUnk6F, [])] := rfl

/-- Row `7x`. -/
theorem test_decode_row_7 :
    [decode [0x70#8, 0x34#8], decode [0x71#8, 0x34#8], decode [0x72#8, 0x34#8],
     decode [0x73#8], decode [0x74#8, 0x34#8], decode [0x75#8, 0x34#8],
     decode [0x76#8, 0x34#8], decode [0x77#8], decode [0x78#8],
     decode [0x79#8, 0x34#8, 0x12#8], decode [0x7A#8], decode [0x7B#8],
     decode [0x7C#8, 0x34#8, 0x12#8], decode [0x7D#8, 0x34#8, 0x12#8], decode [0x7E#8, 0x34#8, 0x12#8],
     decode [0x7F#8]] =
    [.ok (.bvs 0x34#8, []), .ok (.adcIndY 0x34#8, []), .ok (.adcZpInd 0x34#8, []), .ok (.nopUnk73, []),
     .ok (.stzZpX 0x34#8, []), .ok (.adcZpX 0x34#8, []), .ok (.rorZpX 0x34#8, []), .ok (.nopUnk77, []),
     .ok (.sei, []), .ok (.adcAbsY 0x1234#16, []), .ok (.ply, []), .ok (.nopUnk7B, []),
     .ok (.jmpAbsIndX 0x1234#16, []), .ok (.adcAbsX 0x1234#16, []), .ok (.rorAbsX 0x1234#16, []), .ok (.nopUnk7F, [])] := rfl

/-- Row `8x`. -/
theorem test_decode_row_8 :
    [decode [0x80#8, 0x34#8], decode [0x81#8, 0x34#8], decode [0x82#8],
     decode [0x83#8], decode [0x84#8, 0x34#8], decode [0x85#8, 0x34#8],
     decode [0x86#8, 0x34#8], decode [0x87#8], decode [0x88#8],
     decode [0x89#8, 0x34#8], decode [0x8A#8], decode [0x8B#8],
     decode [0x8C#8, 0x34#8, 0x12#8], decode [0x8D#8, 0x34#8, 0x12#8], decode [0x8E#8, 0x34#8, 0x12#8],
     decode [0x8F#8]] =
    [.ok (.bra 0x34#8, []), .ok (.staIndX 0x34#8, []), .ok (.nopUnk82, []), .ok (.nopUnk83, []),
     .ok (.styZp 0x34#8, []), .ok (.staZp 0x34#8, []), .ok (.stxZp 0x34#8, []), .ok (.nopUnk87, []),
     .ok (.dey, []), .ok (.bitImm 0x34#8, []), .ok (.txa, []), .ok (.nopUnk8B, []),
     .ok (.styAbs 0x1234#16, []), .ok (.staAbs 0x1234#16, []), .ok (.stxAbs 0x1234#16, []), .ok (.nopUnk8F, [])] := rfl

/-- Row `9x`. -/
theorem test_decode_row_9 :
    [decode [0x90#8, 0x34#8], decode [0x91#8, 0x34#8], decode [0x92#8, 0x34#8],
     decode [0x93#8], decode [0x94#8, 0x34#8], decode [0x95#8, 0x34#8],
     decode [0x96#8, 0x34#8], decode [0x97#8], decode [0x98#8],
     decode [0x99#8, 0x34#8, 0x12#8], decode [0x9A#8], decode [0x9B#8],
     decode [0x9C#8, 0x34#8, 0x12#8], decode [0x9D#8, 0x34#8, 0x12#8], decode [0x9E#8, 0x34#8, 0x12#8],
     decode [0x9F#8]] =
    [.ok (.bcc 0x34#8, []), .ok (.staIndY 0x34#8, []), .ok (.staZpInd 0x34#8, []), .ok (.nopUnk93, []),
     .ok (.styZpX 0x34#8, []), .ok (.staZpX 0x34#8, []), .ok (.stxZpY 0x34#8, []), .ok (.nopUnk97, []),
     .ok (.tya, []), .ok (.staAbsY 0x1234#16, []), .ok (.txs, []), .ok (.nopUnk9B, []),
     .ok (.stzAbs 0x1234#16, []), .ok (.staAbsX 0x1234#16, []), .ok (.stzAbsX 0x1234#16, []), .ok (.nopUnk9F, [])] := rfl

/-- Row `Ax`. -/
theorem test_decode_row_A :
    [decode [0xA0#8, 0x34#8], decode [0xA1#8, 0x34#8], decode [0xA2#8, 0x34#8],
     decode [0xA3#8], decode [0xA4#8, 0x34#8], decode [0xA5#8, 0x34#8],
     decode [0xA6#8, 0x34#8], decode [0xA7#8], decode [0xA8#8],
     decode [0xA9#8, 0x34#8], decode [0xAA#8], decode [0xAB#8],
     decode [0xAC#8, 0x34#8, 0x12#8], decode [0xAD#8, 0x34#8, 0x12#8], decode [0xAE#8, 0x34#8, 0x12#8],
     decode [0xAF#8]] =
    [.ok (.ldyImm 0x34#8, []), .ok (.ldaIndX 0x34#8, []), .ok (.ldxImm 0x34#8, []), .ok (.nopUnkA3, []),
     .ok (.ldyZp 0x34#8, []), .ok (.ldaZp 0x34#8, []), .ok (.ldxZp 0x34#8, []), .ok (.nopUnkA7, []),
     .ok (.tay, []), .ok (.ldaImm 0x34#8, []), .ok (.tax, []), .ok (.nopUnkAB, []),
     .ok (.ldyAbs 0x1234#16, []), .ok (.ldaAbs 0x1234#16, []), .ok (.ldxAbs 0x1234#16, []), .ok (.nopUnkAF, [])] := rfl

/-- Row `Bx`. -/
theorem test_decode_row_B :
    [decode [0xB0#8, 0x34#8], decode [0xB1#8, 0x34#8], decode [0xB2#8, 0x34#8],
     decode [0xB3#8], decode [0xB4#8, 0x34#8], decode [0xB5#8, 0x34#8],
     decode [0xB6#8, 0x34#8], decode [0xB7#8], decode [0xB8#8],
     decode [0xB9#8, 0x34#8, 0x12#8], decode [0xBA#8], decode [0xBB#8],
     decode [0xBC#8, 0x34#8, 0x12#8], decode [0xBD#8, 0x34#8, 0x12#8], decode [0xBE#8, 0x34#8, 0x12#8],
     decode [0xBF#8]] =
    [.ok (.bcs 0x34#8, []), .ok (.ldaIndY 0x34#8, []), .ok (.ldaZpInd 0x34#8, []), .ok (.nopUnkB3, []),
     .ok (.ldyZpX 0x34#8, []), .ok (.ldaZpX 0x34#8, []), .ok (.ldxZpY 0x34#8, []), .ok (.nopUnkB7, []),
     .ok (.clv, []), .ok (.ldaAbsY 0x1234#16, []), .ok (.tsx, []), .ok (.nopUnkBB, []),
     .ok (.ldyAbsX 0x1234#16, []), .ok (.ldaAbsX 0x1234#16, []), .ok (.ldxAbsY 0x1234#16, []), .ok (.nopUnkBF, [])] := rfl

/-- Row `Cx`. -/
theorem test_decode_row_C :
    [decode [0xC0#8, 0x34#8], decode [0xC1#8, 0x34#8], decode [0xC2#8],
     decode [0xC3#8], decode [0xC4#8, 0x34#8], decode [0xC5#8, 0x34#8],
     decode [0xC6#8, 0x34#8], decode [0xC7#8], decode [0xC8#8],
     decode [0xC9#8, 0x34#8], decode [0xCA#8], decode [0xCB#8],
     decode [0xCC#8, 0x34#8, 0x12#8], decode [0xCD#8, 0x34#8, 0x12#8], decode [0xCE#8, 0x34#8, 0x12#8],
     decode [0xCF#8]] =
    [.ok (.cpyImm 0x34#8, []), .ok (.cmpIndX 0x34#8, []), .ok (.nopUnkC2, []), .ok (.nopUnkC3, []),
     .ok (.cpyZp 0x34#8, []), .ok (.cmpZp 0x34#8, []), .ok (.decZp 0x34#8, []), .ok (.nopUnkC7, []),
     .ok (.iny, []), .ok (.cmpImm 0x34#8, []), .ok (.dex, []), .ok (.nopUnkCB, []),
     .ok (.cpyAbs 0x1234#16, []), .ok (.cmpAbs 0x1234#16, []), .ok (.decAbs 0x1234#16, []), .ok (.nopUnkCF, [])] := rfl

/-- Row `Dx`. -/
theorem test_decode_row_D :
    [decode [0xD0#8, 0x34#8], decode [0xD1#8, 0x34#8], decode [0xD2#8, 0x34#8],
     decode [0xD3#8], decode [0xD4#8], decode [0xD5#8, 0x34#8],
     decode [0xD6#8, 0x34#8], decode [0xD7#8], decode [0xD8#8],
     decode [0xD9#8, 0x34#8, 0x12#8], decode [0xDA#8], decode [0xDB#8],
     decode [0xDC#8], decode [0xDD#8, 0x34#8, 0x12#8], decode [0xDE#8, 0x34#8, 0x12#8],
     decode [0xDF#8]] =
    [.ok (.bne 0x34#8, []), .ok (.cmpIndY 0x34#8, []), .ok (.cmpZpInd 0x34#8, []), .ok (.nopUnkD3, []),
     .ok (.nopUnkD4, []), .ok (.cmpZpX 0x34#8, []), .ok (.decZpX 0x34#8, []), .ok (.nopUnkD7, []),
     .ok (.cld, []), .ok (.cmpAbsY 0x1234#16, []), .ok (.phx, []), .ok (.nopUnkDB, []),
     .ok (.nopUnkDC, []), .ok (.cmpAbsX 0x1234#16, []), .ok (.decAbsX 0x1234#16, []), .ok (.nopUnkDF, [])] := rfl

/-- Row `Ex`. -/
theorem test_decode_row_E :
    [decode [0xE0#8, 0x34#8], decode [0xE1#8, 0x34#8], decode [0xE2#8],
     decode [0xE3#8], decode [0xE4#8, 0x34#8], decode [0xE5#8, 0x34#8],
     decode [0xE6#8, 0x34#8], decode [0xE7#8], decode [0xE8#8],
     decode [0xE9#8, 0x34#8], decode [0xEA#8], decode [0xEB#8],
     decode [0xEC#8, 0x34#8, 0x12#8], decode [0xED#8, 0x34#8, 0x12#8], decode [0xEE#8, 0x34#8, 0x12#8],
     decode [0xEF#8]] =
    [.ok (.cpxImm 0x34#8, []), .ok (.sbcIndX 0x34#8, []), .ok (.nopUnkE2, []), .ok (.nopUnkE3, []),
     .ok (.cpxZp 0x34#8, []), .ok (.sbcZp 0x34#8, []), .ok (.incZp 0x34#8, []), .ok (.nopUnkE7, []),
     .ok (.inx, []), .ok (.sbcImm 0x34#8, []), .ok (.nop, []), .ok (.nopUnkEB, []),
     .ok (.cpxAbs 0x1234#16, []), .ok (.sbcAbs 0x1234#16, []), .ok (.incAbs 0x1234#16, []), .ok (.nopUnkEF, [])] := rfl

/-- Row `Fx`. -/
theorem test_decode_row_F :
    [decode [0xF0#8, 0x34#8], decode [0xF1#8, 0x34#8], decode [0xF2#8, 0x34#8],
     decode [0xF3#8], decode [0xF4#8], decode [0xF5#8, 0x34#8],
     decode [0xF6#8, 0x34#8], decode [0xF7#8], decode [0xF8#8],
     decode [0xF9#8, 0x34#8, 0x12#8], decode [0xFA#8], decode [0xFB#8],
     decode [0xFC#8], decode [0xFD#8, 0x34#8, 0x12#8], decode [0xFE#8, 0x34#8, 0x12#8],
     decode [0xFF#8]] =
    [.ok (.beq 0x34#8, []), .ok (.sbcIndY 0x34#8, []), .ok (.sbcZpInd 0x34#8, []), .ok (.nopUnkF3, []),
     .ok (.nopUnkF4, []), .ok (.sbcZpX 0x34#8, []), .ok (.incZpX 0x34#8, []), .ok (.nopUnkF7, []),
     .ok (.sed, []), .ok (.sbcAbsY 0x1234#16, []), .ok (.plx, []), .ok (.nopUnkFB, []),
     .ok (.nopUnkFC, []), .ok (.sbcAbsX 0x1234#16, []), .ok (.incAbsX 0x1234#16, []), .ok (.nopUnkFF, [])] := rfl

/-- A decoder given too few bytes says so (R130). -/
theorem test_decode_short :
    decode [] = .error .noOpcode ∧ decode [0xA9#8] = .error .missingOperand ∧
    decode [0xAD#8, 0x00#8] = .error .missingOperand := ⟨rfl, rfl, rfl⟩

/-- The host's numbering of a table word: byte 0 in bits 7..0, byte 1 above it (R130). -/
theorem test_decodeTableWord :
    decodeTableWord 24 0x12348D = some (.staAbs 0x1234#16) ∧ decodeTableWord 8 0xA9 = some (.ldaImm 0x00#8) ∧
    decodeTableWord 8 0x02 = some .nopUnk02 := ⟨rfl, rfl, rfl⟩

/-! ### Well-formedness: each check refuses an ill-formed term -/

theorem test_wf_standard : Params.standard.wf = true := by decide +kernel
theorem test_wf_instr : (Instr.staAbs 0xFFFF#16).wf = true := rfl
theorem test_wf_refuses_clocks :
    ({ Params.standard with frameRateHz := 0 } : Params).wfClocks = false := by decide
theorem test_wf_refuses_tickInterval :
    ({ Params.standard with tickInterval := 0 } : Params).wfTickInterval = false := by decide
theorem test_wf_refuses_baseCycles :
    ({ Params.standard with baseCycles := defaultBaseCycles.set 0xA9 0 } : Params).wfBaseCycles = false ∧
    ({ Params.standard with baseCycles := defaultBaseCycles.set 0x02 2 } : Params).wfBaseCycles = false ∧
    ({ Params.standard with baseCycles := defaultBaseCycles.tail } : Params).wfBaseCycles = false := by
  decide +kernel
theorem test_wf_refuses_scanlines :
    ({ Params.standard with totalScanlines := 191 } : Params).wfScanlines = false := by decide
theorem test_wf_refuses_palette :
    ({ Params.standard with palette := defaultPalette.set 15 black } : Params).wfPalette = false ∧
    ({ Params.standard with palette := [] } : Params).wfPalette = false := by decide +kernel
theorem test_wf_refuses_sampleRate :
    ({ Params.standard with sampleRateHz := 1000001 } : Params).wfSampleRate = false := by decide
theorem test_wf_refuses_sustain :
    ({ Params.standard with sustainLevel := defaultSustainLevel.set 15 0xF0#8 } : Params).wfSustain = false ∧
    defaultSustainLevel.getD 0 1 = 0x00#8 ∧ defaultSustainLevel.getD 1 0 = 0x11#8 ∧
    defaultSustainLevel.getD 15 0 = 0xFF#8 := by decide
theorem test_wf_refuses_viaTick :
    ({ Params.standard with viaTickEveryCycle := false } : Params).wfViaTick = false := rfl
theorem test_wf_refuses_rates :
    ({ Params.standard with attackPeriod := defaultRatePeriod.set 3 10 } : Params).wfRates = false := by
  decide +kernel
theorem test_wf_refuses_cutoff : ({ Params.standard with cutoffHz := [] } : Params).wfCutoff = false := by
  decide
theorem test_wf_refuses_pi : ({ Params.standard with piApprox := 3 } : Params).wfPi = false := by
  decide +kernel

/-! ### One step of the CPU: the spec's vectors (`95_test_vectors.md` Part 2)

The vectors' instruction at `0x8000` in flat memory stands here at `0x4000` in RAM, so an address `0x80nn`
of a vector is `0x40nn` here; vectors of traps stand in ROM. -/

/-- A machine about to execute the instruction at `0x4000`. -/
def ready : State := { State.reset with pc := 0x4000#16, cyclesRemaining := 0 }

/-- Bytes from an address of RAM on. -/
def poke (a : Nat) : List Byte → State → State
  | [], s => s
  | x :: rest, s => poke (a + 1) rest { s with ram := Memory.write s.ram a x }

/-- ROM cells that hold the reset vector `0xB000`, the NMI vector `0xC000` and the IRQ vector `0xA000`. -/
def vectors : Memory := [(0x7FFB, 0xC0#8), (0x7FFD, 0xB0#8), (0x7FFF, 0xA0#8)]

/-- What a function sees of the state after one step. -/
def after {α : Type} (s : State) (f : State → α) : Option α :=
  match step s with
  | .next t => some (f t)
  | .fault _ => none
  | .refused _ => none

/-- A byte of RAM. -/
def cell (a : Nat) (t : State) : Byte := Memory.read t.ram a

/-- The cycles the executed instruction costs: one has passed. -/
def cost (t : State) : Nat := t.cyclesRemaining + 1

/-- The three stacked bytes from `0x01FD` down, with `SP`, `P` and `PC`. -/
def frameOf (t : State) : List Byte × Byte × Byte × Word :=
  ([cell 0x1FD t, cell 0x1FC t, cell 0x1FB t], t.sp, t.p, t.pc)


theorem test_T1_lda_imm_zero : after (poke 0x4000 [0xA9#8, 0x00#8] { ready with a := 0x55#8 })
    (fun t => (t.a, t.p, cost t)) =
    some (0x00#8, 0x22#8, 2) := by decide +kernel
theorem test_T2_lda_imm_negative : after (poke 0x4000 [0xA9#8, 0x80#8] ready)
    (fun t => (t.a, t.p, cost t)) =
    some (0x80#8, 0xA0#8, 2) := by decide +kernel
theorem test_T3_lda_absX_crossed : after (poke 0x4000 [0xBD#8, 0xFF#8, 0x12#8] (poke 0x1300 [0x7F#8] { ready with x := 0x01#8 }))
    (fun t => (t.a, t.p, cost t)) =
    some (0x7F#8, 0x20#8, 5) := by decide +kernel
theorem test_T4_lda_absX : after (poke 0x4000 [0xBD#8, 0x7F#8, 0x12#8] (poke 0x1280 [0x01#8] { ready with x := 0x01#8 }))
    (fun t => (t.a, cost t)) =
    some (0x01#8, 4) := by decide +kernel
theorem test_T5_lda_indY_wraps : after (poke 0x4000 [0xB1#8, 0xFF#8] (poke 0x1235 [0xC3#8] (poke 0x0100 [0x99#8] (poke 0x0000 [0x12#8] (poke 0x00FF [0x34#8] { ready with y := 0x01#8 })))))
    (fun t => (t.a, t.p, cost t)) =
    some (0xC3#8, 0xA0#8, 5) := by decide +kernel
theorem test_T6_lda_indX : after (poke 0x4000 [0xA1#8, 0xFE#8] (poke 0x0000 [0x56#8] (poke 0x00FF [0x78#8] { ready with x := 0x01#8 })))
    (fun t => (t.a, t.p, cost t)) =
    some (0x00#8, 0x22#8, 6) := by decide +kernel
theorem test_T7_ldx_zpY_wraps : after (poke 0x4000 [0xB6#8, 0xF0#8] (poke 0x0110 [0x99#8] (poke 0x0010 [0x44#8] { ready with y := 0x20#8 })))
    (fun t => (t.x, cost t)) =
    some (0x44#8, 4) := by decide +kernel
theorem test_T8_lda_zpInd : after (poke 0x4000 [0xB2#8, 0x40#8] (poke 0x12AB [0x5A#8] (poke 0x0040 [0xAB#8, 0x12#8] ready)))
    (fun t => (t.a, cost t)) =
    some (0x5A#8, 5) := by decide +kernel
theorem test_ldy_absX : after (poke 0x4000 [0xBC#8, 0xFF#8, 0x12#8] (poke 0x1301 [0x80#8] { ready with x := 0x02#8 }))
    (fun t => (t.y, t.p, cost t)) =
    some (0x80#8, 0xA0#8, 5) := by decide +kernel
theorem test_lda_absY_wraps : after (poke 0x4000 [0xB9#8, 0xFF#8, 0xFF#8] (poke 0x0001 [0x42#8] { ready with y := 0x02#8 }))
    (fun t => (t.a, cost t)) =
    some (0x42#8, 5) := by decide +kernel
theorem test_T9_sta_abs : after (poke 0x4000 [0x8D#8, 0x00#8, 0x02#8] { ready with a := 0x80#8, p := 0x22#8 })
    (fun t => (cell 0x0200 t, t.p, cost t)) =
    some (0x80#8, 0x22#8, 4) := by decide +kernel
theorem test_T10_sta_rom : after (poke 0x4000 [0x8D#8, 0x00#8, 0xA0#8] { ready with a := 0x55#8, rom := [(0x2000, 0xEA#8)] })
    (fun t => (t.rom, cost t)) =
    some ([(0x2000, 0xEA#8)], 4) := by decide +kernel
theorem test_stx_zpY : after (poke 0x4000 [0x96#8, 0xF0#8] { ready with x := 0x77#8, y := 0x20#8 })
    (fun t => (cell 0x0010 t, cost t)) =
    some (0x77#8, 4) := by decide +kernel
theorem test_sty_zpX : after (poke 0x4000 [0x94#8, 0xF0#8] { ready with x := 0x20#8, y := 0x66#8 })
    (fun t => (cell 0x0010 t, cost t)) =
    some (0x66#8, 4) := by decide +kernel
theorem test_sta_indY_no_penalty : after (poke 0x4000 [0x91#8, 0x10#8] (poke 0x0010 [0xFF#8, 0x12#8] { ready with a := 0x3C#8, y := 0x01#8 }))
    (fun t => (cell 0x1300 t, cost t)) =
    some (0x3C#8, 6) := by decide +kernel
theorem test_T11_stz_zp : after (poke 0x4000 [0x64#8, 0x30#8] (poke 0x0030 [0xFF#8] ready))
    (fun t => (cell 0x0030 t, t.p, cost t)) =
    some (0x00#8, 0x20#8, 3) := by decide +kernel
theorem test_T12_txs : after (poke 0x4000 [0x9A#8] { ready with x := 0x00#8 })
    (fun t => (t.sp, t.p, cost t)) =
    some (0x00#8, 0x20#8, 2) := by decide +kernel
theorem test_T13_tsx : after (poke 0x4000 [0xBA#8] { ready with sp := 0x80#8 })
    (fun t => (t.x, t.p, cost t)) =
    some (0x80#8, 0xA0#8, 2) := by decide +kernel
theorem test_T14_pha_wraps : after (poke 0x4000 [0x48#8] { ready with sp := 0x00#8, a := 0x7E#8 })
    (fun t => (cell 0x0100 t, t.sp, cost t)) =
    some (0x7E#8, 0xFF#8, 3) := by decide +kernel
theorem test_T15_pla_wraps : after (poke 0x4000 [0x68#8] { ready with sp := 0xFF#8, a := 0x12#8 })
    (fun t => (t.sp, t.a, t.p, cost t)) =
    some (0x00#8, 0x00#8, 0x22#8, 4) := by decide +kernel
theorem test_T16_php : after (poke 0x4000 [0x08#8] { ready with p := 0x23#8 })
    (fun t => (cell 0x01FD t, t.sp, t.p, cost t)) =
    some (0x33#8, 0xFC#8, 0x23#8, 3) := by decide +kernel
theorem test_T17_plp : after (poke 0x4000 [0x28#8] (poke 0x01FD [0xFF#8] { ready with sp := 0xFC#8 }))
    (fun t => (t.p, t.sp, cost t)) =
    some (0xEF#8, 0xFD#8, 4) := by decide +kernel
theorem test_T18_plp_zero : after (poke 0x4000 [0x28#8] { ready with sp := 0xFC#8 })
    (fun t => (t.p, cost t)) =
    some (0x20#8, 4) := by decide +kernel
theorem test_T19_tax : after (poke 0x4000 [0xAA#8] { ready with a := 0x80#8 })
    (fun t => (t.x, t.p, cost t)) =
    some (0x80#8, 0xA0#8, 2) := by decide +kernel
theorem test_tay : after (poke 0x4000 [0xA8#8] { ready with a := 0x41#8, y := 0x99#8 })
    (fun t => (t.y, t.p, cost t)) =
    some (0x41#8, 0x20#8, 2) := by decide +kernel
theorem test_txa : after (poke 0x4000 [0x8A#8] { ready with x := 0x81#8 })
    (fun t => (t.a, t.p)) =
    some (0x81#8, 0xA0#8) := by decide +kernel
theorem test_tya : after (poke 0x4000 [0x98#8] { ready with a := 0x41#8 })
    (fun t => (t.a, t.p)) =
    some (0x00#8, 0x22#8) := by decide +kernel
theorem test_T20_phx : after (poke 0x4000 [0xDA#8] { ready with x := 0x5F#8 })
    (fun t => (cell 0x01FD t, t.sp, cost t)) =
    some (0x5F#8, 0xFC#8, 3) := by decide +kernel
theorem test_T20_ply : after (poke 0x4000 [0x7A#8] { ready with sp := 0xFC#8, y := 0x11#8 })
    (fun t => (t.y, t.p, t.sp, cost t)) =
    some (0x00#8, 0x22#8, 0xFD#8, 4) := by decide +kernel
theorem test_phy : after (poke 0x4000 [0x5A#8] { ready with y := 0x6A#8 })
    (fun t => (cell 0x01FD t, t.sp)) =
    some (0x6A#8, 0xFC#8) := by decide +kernel
theorem test_plx : after (poke 0x4000 [0xFA#8] (poke 0x01FD [0x90#8] { ready with sp := 0xFC#8 }))
    (fun t => (t.x, t.p, t.sp)) =
    some (0x90#8, 0xA0#8, 0xFD#8) := by decide +kernel

/-- One immediate ADC (`69`) or SBC (`E9`): `A`, operand and `P` in; `A`, `P` and the cost out. -/
def alu (op a m p : Byte) : Option (Byte × Byte × Nat) :=
  after (poke 0x4000 [op, m] { ready with a := a, p := p }) fun t => (t.a, t.p, cost t)

theorem test_T21_adc_binary :
    [alu 0x69#8 0x50#8 0x50#8 0x20#8,
     alu 0x69#8 0xFF#8 0x01#8 0x20#8,
     alu 0x69#8 0x7F#8 0x00#8 0x21#8,
     alu 0x69#8 0x80#8 0x80#8 0x20#8,
     alu 0x69#8 0xFF#8 0xFF#8 0x21#8] =
    [(0xA0#8, 0xE0#8, 2), (0x00#8, 0x23#8, 2), (0x80#8, 0xE0#8, 2), (0x00#8, 0x63#8, 2), (0xFF#8, 0xA1#8, 2)].map some := by
  decide +kernel
theorem test_T22_sbc_binary :
    [alu 0xE9#8 0x50#8 0xF0#8 0x21#8,
     alu 0xE9#8 0x50#8 0xB0#8 0x21#8,
     alu 0xE9#8 0x00#8 0x01#8 0x21#8,
     alu 0xE9#8 0x05#8 0x05#8 0x21#8,
     alu 0xE9#8 0x05#8 0x04#8 0x20#8,
     alu 0xE9#8 0x80#8 0x01#8 0x21#8] =
    [(0x60#8, 0x20#8, 2), (0xA0#8, 0xE0#8, 2), (0xFF#8, 0xA0#8, 2), (0x00#8, 0x23#8, 2), (0x00#8, 0x23#8, 2), (0x7F#8, 0x61#8, 2)].map some := by
  decide +kernel
theorem test_T23_adc_decimal :
    [alu 0x69#8 0x09#8 0x01#8 0x28#8,
     alu 0x69#8 0x99#8 0x01#8 0x28#8,
     alu 0x69#8 0x58#8 0x46#8 0x29#8,
     alu 0x69#8 0x79#8 0x00#8 0x29#8] =
    [(0x10#8, 0x28#8, 2), (0x00#8, 0x2B#8, 2), (0x05#8, 0x69#8, 2), (0x80#8, 0xA8#8, 2)].map some := by
  decide +kernel
theorem test_T24_sbc_decimal :
    [alu 0xE9#8 0x46#8 0x12#8 0x29#8,
     alu 0xE9#8 0x40#8 0x13#8 0x29#8,
     alu 0xE9#8 0x32#8 0x02#8 0x28#8,
     alu 0xE9#8 0x12#8 0x21#8 0x29#8,
     alu 0xE9#8 0x21#8 0x34#8 0x29#8,
     alu 0xE9#8 0x00#8 0x01#8 0x29#8] =
    [(0x34#8, 0x29#8, 2), (0x27#8, 0x29#8, 2), (0x29#8, 0x29#8, 2), (0x91#8, 0xA8#8, 2), (0x87#8, 0xA8#8, 2), (0x99#8, 0xA8#8, 2)].map some := by
  decide +kernel
theorem test_T25a_and : after (poke 0x4000 [0x29#8, 0x0F#8] { ready with a := 0xF0#8 })
    (fun t => (t.a, t.p, cost t)) =
    some (0x00#8, 0x22#8, 2) := by decide +kernel
theorem test_T25b_ora : after (poke 0x4000 [0x09#8, 0x01#8] { ready with a := 0x80#8 })
    (fun t => (t.a, t.p, cost t)) =
    some (0x81#8, 0xA0#8, 2) := by decide +kernel
theorem test_T25c_eor : after (poke 0x4000 [0x49#8, 0xFF#8] { ready with a := 0xFF#8 })
    (fun t => (t.a, t.p, cost t)) =
    some (0x00#8, 0x22#8, 2) := by decide +kernel
theorem test_T26a_cmp_equal : after (poke 0x4000 [0xC9#8, 0x40#8] { ready with a := 0x40#8, p := 0x60#8 })
    (fun t => (t.a, t.p, cost t)) =
    some (0x40#8, 0x63#8, 2) := by decide +kernel
theorem test_T26b_cmp_below : after (poke 0x4000 [0xC9#8, 0x41#8] { ready with a := 0x40#8 })
    (fun t => t.p) =
    some 0xA0#8 := by decide +kernel
theorem test_T26d_cpx : after (poke 0x4000 [0xE0#8, 0x00#8] ready)
    (fun t => (t.p, cost t)) =
    some (0x23#8, 2) := by decide +kernel
theorem test_T26e_cpy : after (poke 0x4000 [0xC0#8, 0x80#8] { ready with y := 0x7F#8 })
    (fun t => (t.p, cost t)) =
    some (0xA0#8, 2) := by decide +kernel
theorem test_T27a_bit_zp : after (poke 0x4000 [0x24#8, 0x10#8] (poke 0x0010 [0xC0#8] { ready with a := 0x01#8 }))
    (fun t => (t.a, t.p, cost t)) =
    some (0x01#8, 0xE2#8, 3) := by decide +kernel
theorem test_T27b_bit_imm : after (poke 0x4000 [0x89#8, 0x02#8] { ready with a := 0x01#8, p := 0xE0#8 })
    (fun t => (t.p, cost t)) =
    some (0xE2#8, 2) := by decide +kernel
theorem test_T28a_inc_zp : after (poke 0x4000 [0xE6#8, 0x20#8] (poke 0x0020 [0xFF#8] ready))
    (fun t => (cell 0x0020 t, t.p, cost t)) =
    some (0x00#8, 0x22#8, 5) := by decide +kernel
theorem test_T28b_dec_zp : after (poke 0x4000 [0xC6#8, 0x20#8] { ready with p := 0x21#8 })
    (fun t => (cell 0x0020 t, t.p, cost t)) =
    some (0xFF#8, 0xA1#8, 5) := by decide +kernel
theorem test_T28c_inc_a : after (poke 0x4000 [0x1A#8] { ready with a := 0x7F#8, p := 0x21#8 })
    (fun t => (t.a, t.p, cost t)) =
    some (0x80#8, 0xA1#8, 2) := by decide +kernel
theorem test_dec_a : after (poke 0x4000 [0x3A#8] { ready with a := 0x00#8 })
    (fun t => (t.a, t.p, cost t)) =
    some (0xFF#8, 0xA0#8, 2) := by decide +kernel
theorem test_T28d_inx : after (poke 0x4000 [0xE8#8] { ready with x := 0xFF#8 })
    (fun t => (t.x, t.p, cost t)) =
    some (0x00#8, 0x22#8, 2) := by decide +kernel
theorem test_iny : after (poke 0x4000 [0xC8#8] { ready with y := 0x7F#8 })
    (fun t => (t.y, t.p, cost t)) =
    some (0x80#8, 0xA0#8, 2) := by decide +kernel
theorem test_T29_dex : after (poke 0x4000 [0xCA#8] ready)
    (fun t => (t.x, t.p, cost t)) =
    some (0xFF#8, 0xA0#8, 2) := by decide +kernel
theorem test_dey : after (poke 0x4000 [0x88#8] { ready with y := 0x01#8 })
    (fun t => (t.y, t.p, cost t)) =
    some (0x00#8, 0x22#8, 2) := by decide +kernel
theorem test_T30a_trb : after (poke 0x4000 [0x14#8, 0x30#8] (poke 0x0030 [0x3C#8] { ready with a := 0x0F#8 }))
    (fun t => (cell 0x0030 t, t.p, cost t)) =
    some (0x30#8, 0x20#8, 5) := by decide +kernel
theorem test_T30b_tsb : after (poke 0x4000 [0x04#8, 0x30#8] (poke 0x0030 [0x30#8] { ready with a := 0x0F#8 }))
    (fun t => (cell 0x0030 t, t.p, cost t)) =
    some (0x3F#8, 0x22#8, 5) := by decide +kernel
theorem test_T30c_trb_abs : after (poke 0x4000 [0x1C#8, 0x30#8, 0x00#8] (poke 0x0030 [0x81#8] { ready with p := 0xA0#8 }))
    (fun t => (cell 0x0030 t, t.p, cost t)) =
    some (0x81#8, 0xA2#8, 6) := by decide +kernel
theorem test_T31b_asl_a : after (poke 0x4000 [0x0A#8] { ready with a := 0x40#8, p := 0x21#8 })
    (fun t => (t.a, t.p, cost t)) =
    some (0x80#8, 0xA0#8, 2) := by decide +kernel
theorem test_T32_lsr_a : after (poke 0x4000 [0x4A#8] { ready with a := 0x01#8 })
    (fun t => (t.a, t.p, cost t)) =
    some (0x00#8, 0x23#8, 2) := by decide +kernel
theorem test_T33a_rol_a : after (poke 0x4000 [0x2A#8] { ready with a := 0x80#8, p := 0x21#8 })
    (fun t => (t.a, t.p, cost t)) =
    some (0x01#8, 0x21#8, 2) := by decide +kernel
theorem test_T34c_ror_a : after (poke 0x4000 [0x6A#8] { ready with p := 0x21#8 })
    (fun t => (t.a, t.p, cost t)) =
    some (0x80#8, 0xA0#8, 2) := by decide +kernel
theorem test_T35_asl_zp : after (poke 0x4000 [0x06#8, 0x10#8] (poke 0x0010 [0x81#8] ready))
    (fun t => (cell 0x0010 t, t.p, cost t)) =
    some (0x02#8, 0x21#8, 5) := by decide +kernel
theorem test_T36_ror_absX : after (poke 0x4000 [0x7E#8, 0xFF#8, 0x11#8] (poke 0x12FE [0x02#8] { ready with x := 0xFF#8, p := 0x21#8 }))
    (fun t => (cell 0x12FE t, t.p, cost t)) =
    some (0x81#8, 0xA0#8, 7) := by decide +kernel
theorem test_lsr_zp : after (poke 0x4000 [0x46#8, 0x10#8] (poke 0x0010 [0x03#8] ready))
    (fun t => (cell 0x0010 t, t.p, cost t)) =
    some (0x01#8, 0x21#8, 5) := by decide +kernel
theorem test_rol_abs : after (poke 0x4000 [0x2E#8, 0x00#8, 0x02#8] (poke 0x0200 [0x40#8] { ready with p := 0x21#8 }))
    (fun t => (cell 0x0200 t, t.p, cost t)) =
    some (0x81#8, 0xA0#8, 6) := by decide +kernel
theorem test_T37_inc_port : after (poke 0x4000 [0xEE#8, 0x00#8, 0x9C#8] { ready with vdp := { Vdp.cold with addr := 0x0100#14, readbuf := 0x41#8, vram := [(0x0100, 0x10#8), (0x0101, 0x20#8)] } })
    (fun t => (t.vdp.vram, t.vdp.readbuf, t.vdp.addr)) =
    some ([(0x0100, 0x10#8), (0x0101, 0x42#8)], 0x42#8, 0x0102#14) := by decide +kernel
theorem test_T40a_bne_taken : after (poke 0x4000 [0xD0#8, 0x10#8] ready)
    (fun t => (t.pc, cost t)) =
    some (0x4012#16, 3) := by decide +kernel
theorem test_T40b_bne_not_taken : after (poke 0x4000 [0xD0#8, 0x10#8] { ready with p := 0x22#8 })
    (fun t => (t.pc, cost t)) =
    some (0x4002#16, 2) := by decide +kernel
theorem test_T42_bne_crossed : after (poke 0x40FC [0xD0#8, 0x02#8] { ready with pc := 0x40FC#16 })
    (fun t => (t.pc, cost t)) =
    some (0x4100#16, 4) := by decide +kernel
theorem test_T45_bne_not_crossed : after (poke 0x40FD [0xD0#8, 0x00#8] { ready with pc := 0x40FD#16 })
    (fun t => (t.pc, cost t)) =
    some (0x40FF#16, 3) := by decide +kernel

/-- One branch with offset 02 at `0x4000`, under each value of `P`. -/
def branch (op p : Byte) : Option (Word × Nat) :=
  after (poke 0x4000 [op, 0x02#8] { ready with p := p }) fun t => (t.pc, cost t)

/-- T46 and T47: every branch, taken and not taken. -/
theorem test_T46_branches :
    [branch 0x90#8 0x20#8, branch 0xB0#8 0x21#8, branch 0xF0#8 0x22#8, branch 0xD0#8 0x20#8,
     branch 0x30#8 0xA0#8, branch 0x10#8 0x20#8, branch 0x50#8 0x20#8, branch 0x70#8 0x60#8,
     branch 0x80#8 0xEF#8] = List.replicate 9 (some (0x4004#16, 3)) ∧
    [branch 0x90#8 0x21#8, branch 0xB0#8 0xEE#8, branch 0xF0#8 0xED#8, branch 0xD0#8 0x22#8,
     branch 0x30#8 0x6F#8, branch 0x10#8 0xA0#8, branch 0x50#8 0x60#8, branch 0x70#8 0xAF#8] =
      List.replicate 8 (some (0x4002#16, 2)) := by decide +kernel

theorem test_T48_jmp_abs : after (poke 0x4000 [0x4C#8, 0x34#8, 0x12#8] ready)
    (fun t => (t.pc, cost t)) =
    some (0x1234#16, 3) := by decide +kernel
theorem test_T49_jmp_ind : after (poke 0x4000 [0x6C#8, 0xFF#8, 0x12#8] (poke 0x1200 [0x99#8] (poke 0x1300 [0x56#8] (poke 0x12FF [0x78#8] ready))))
    (fun t => (t.pc, cost t)) =
    some (0x5678#16, 6) := by decide +kernel
theorem test_T50_jmp_absIndX : after (poke 0x4000 [0x7C#8, 0x00#8, 0x10#8] (poke 0x1002 [0xCD#8, 0xAB#8] { ready with x := 0x02#8 }))
    (fun t => (t.pc, cost t)) =
    some (0xABCD#16, 6) := by decide +kernel
theorem test_T51_jsr : after (poke 0x4000 [0x20#8, 0x10#8, 0x40#8] ready)
    (fun t => (cell 0x01FD t, cell 0x01FC t, t.sp, t.pc, cost t)) =
    some (0x40#8, 0x02#8, 0xFB#8, 0x4010#16, 6) := by decide +kernel
theorem test_T53_jsr_wraps : after (poke 0x4000 [0x20#8, 0x10#8, 0x40#8] { ready with sp := 0x00#8 })
    (fun t => (cell 0x0100 t, cell 0x01FF t, t.sp)) =
    some (0x40#8, 0x02#8, 0xFE#8) := by decide +kernel
theorem test_T52_rts : after (poke 0x4000 [0x60#8] (poke 0x01FC [0x02#8, 0x40#8] { ready with sp := 0xFB#8 }))
    (fun t => (t.pc, t.sp, cost t)) =
    some (0x4003#16, 0xFD#8, 6) := by decide +kernel
theorem test_T54_fetch_wraps : after (poke 0x0000 [0x07#8] { ready with pc := 0xFFFF#16, rom := [(0x7FFF, 0xA9#8)] })
    (fun t => (t.a, t.pc, cost t)) =
    some (0x07#8, 0x0001#16, 2) := by decide +kernel

/-- `P` after one flag instruction, and its cost. -/
def flagOp (op p : Byte) : Option (Byte × Nat) :=
  after (poke 0x4000 [op] { ready with p := p }) fun t => (t.p, cost t)

/-- T55a and T55b. -/
theorem test_T55_flags :
    [flagOp 0x38#8 0x20#8, flagOp 0xF8#8 0x21#8, flagOp 0x78#8 0x29#8, flagOp 0x18#8 0xEF#8,
     flagOp 0xD8#8 0xEE#8, flagOp 0x58#8 0xE6#8, flagOp 0xB8#8 0xE2#8] =
    [some (0x21#8, 2), some (0x29#8, 2), some (0x2D#8, 2), some (0xEE#8, 2), some (0xE6#8, 2),
     some (0xE2#8, 2), some (0xA2#8, 2)] := by decide +kernel

theorem test_T56_nop : after (poke 0x4000 [0xEA#8] ready)
    (fun t => (t.pc, t.p, cost t)) =
    some (0x4001#16, 0x20#8, 2) := by decide +kernel
theorem test_T57_undefined : after (poke 0x4000 [0x02#8] ready)
    (fun t => (t.pc, t.p, cost t)) =
    some (0x4001#16, 0x20#8, 1) := by decide +kernel
theorem test_T58a_brk : after (poke 0x4000 [0x00#8] { ready with rom := vectors })
    (fun t => (frameOf t, cost t)) =
    some (([0x40#8, 0x02#8, 0x34#8], 0xFA#8, 0x24#8, 0xA000#16), 7) := by decide +kernel
theorem test_T58b_brk_masked : after (poke 0x4000 [0x00#8] { ready with rom := vectors, p := 0x2C#8 })
    (fun t => (cell 0x01FB t, t.p)) =
    some (0x3C#8, 0x2C#8) := by decide +kernel
theorem test_T59a_rti : after (poke 0x4000 [0x40#8] (poke 0x01FB [0x34#8, 0x02#8, 0x40#8] { ready with sp := 0xFA#8, p := 0x24#8 }))
    (fun t => (t.p, t.pc, t.sp, cost t)) =
    some (0x24#8, 0x4002#16, 0xFD#8, 6) := by decide +kernel
theorem test_T59b_rti : after (poke 0x4000 [0x40#8] (poke 0x01FB [0xFB#8, 0x34#8, 0x12#8] { ready with sp := 0xFA#8 }))
    (fun t => (t.p, t.pc, t.sp)) =
    some (0xEB#8, 0x1234#16, 0xFD#8) := by decide +kernel

/-- Under `ISA_TIER = base` an opcode of tier `cmos` is an undefined one: one byte, one cycle (U2). -/
theorem test_base_tier :
    after (poke 0x4000 [0xB2#8, 0x40#8] { ready with
      params := { Params.standard with isaTier := .base } }) (fun t => (t.pc, t.a, cost t)) =
    some (0x4001#16, 0x00#8, 1) := by decide +kernel

/-- With a digit above 9 the result is the free value, whatever it is, and the machine goes on (U3). -/
theorem test_open_decimal :
    after (poke 0x4000 [0x69#8, 0x0A#8] { ready with p := 0x28#8 }) (fun t => (t.a, t.pc, t.bcdDrawn, cost t)) =
    some ((Config.bcdResult 0).value, 0x4002#16, 1, 2) := rfl

/-- What every one of the 78 undefined opcodes does: `PC` and one cycle (R330). -/
theorem test_undefined_opcodes :
    undefinedOpcodes.all (fun op => after (poke 0x4000 [op] ready) (fun t => (t.pc, t.p, t.sp, cost t)) ==
      some (0x4001#16, 0x20#8, 0xFD#8, 1)) = true := by decide +kernel

/-! ### Traps (`95_test_vectors.md` 2.6) -/

theorem test_T70_irq :
    frameOf (irqPulse { ready with rom := vectors }) = ([0x40#8, 0x00#8, 0x24#8], 0xFA#8, 0x24#8, 0xA000#16) ∧
    (irqPulse { ready with rom := vectors }).cyclesRemaining = 7 := by decide +kernel

theorem test_T71_irq_masked : irqPulse { ready with p := 0x24#8 } = { ready with p := 0x24#8 } := rfl

theorem test_T72_nmi :
    frameOf (nmiPulse { ready with rom := vectors, p := 0x24#8, pc := 0x1234#16 }) =
      ([0x12#8, 0x34#8, 0x24#8], 0xFA#8, 0x24#8, 0xC000#16) := by decide +kernel

theorem test_T73_T74_status :
    (irqPulse { ready with p := 0xE3#8 }).p = 0xE7#8 ∧ cell 0x1FB (irqPulse { ready with p := 0xE3#8 }) = 0xE7#8 ∧
    (irqPulse { ready with p := 0x28#8 }).p = 0x2C#8 ∧ cell 0x1FB (irqPulse { ready with p := 0x28#8 }) = 0x2C#8 := by
  decide +kernel

theorem test_T75_wraps :
    (fun t => (cell 0x101 t, cell 0x100 t, cell 0x1FF t, t.sp)) (irqPulse { ready with sp := 0x01#8 }) =
      (0x40#8, 0x00#8, 0x24#8, 0xFE#8) := by decide +kernel

theorem test_T76_T77_two_pulses :
    (deliverAll [.irq, .nmi] { ready with rom := vectors }).pc = 0xC000#16 ∧
    cell 0x1FA (deliverAll [.irq, .nmi] { ready with rom := vectors }) = 0xA0#8 ∧
    (deliverAll [.irq, .nmi] { ready with rom := vectors }).cyclesRemaining = 14 ∧
    (deliverAll [.nmi, .irq] { ready with rom := vectors }).sp = 0xFA#8 := by decide +kernel

/-! ### The video card (2.7) -/

/-- Writes to the control and data ports: `true` is the control port. -/
def ports (l : List (Bool × Byte)) (d : Vdp) : Vdp :=
  l.foldl (fun d w => if w.1 then d.writeControl w.2 else d.writeData w.2) d

theorem test_T60_read_setup :
    (fun d : Vdp => (d.readData.1, d.addr, d.readData.2.addr))
      (ports [(true, 0x34#8), (true, 0x52#8), (false, 0x5A#8), (true, 0x34#8), (true, 0x12#8)] Vdp.cold) =
      (0x5A#8, 0x1235#14, 0x1236#14) := by decide +kernel

theorem test_T61_write_setup :
    (fun d : Vdp => (d.readData.1, d.readData.2.readData.1))
      (ports [(true, 0x34#8), (true, 0x52#8), (false, 0x5A#8), (true, 0x00#8), (true, 0x60#8),
        (false, 0x77#8), (true, 0x34#8), (true, 0x52#8)] Vdp.cold) = (0x77#8, 0x5A#8) := by decide +kernel

theorem test_T62_T63_T64 :
    (ports [(true, 0xFF#8), (true, 0x7F#8), (false, 0xAA#8)] Vdp.cold).addr = 0 ∧
    (ports [(true, 0xFF#8), (true, 0x7F#8), (false, 0xAA#8)] Vdp.cold).vram = [(0x3FFF, 0xAA#8)] ∧
    (ports [(true, 0xE0#8), (true, 0xF9#8)] Vdp.cold).regs.r1 = 0xE0#8 ∧
    (ports [(true, 0x00#8), (true, 0x40#8)] (ports [(true, 0x11#8)] Vdp.cold).readStatus.2).addr = 0 := by
  decide +kernel

/-- The set-up of the source's render scenario E3 (T68). -/
def renderSetup : Vdp :=
  { Vdp.cold with
    regs := ⟨0x00#8, 0x40#8, 0x0E#8, 0x00#8, 0x04#8, 0x00#8, 0x00#8, 0x00#8⟩
    vram := [(0, 0xF1#8), (0x2000, 0xFF#8), (0x2002, 0xFF#8), (0x2004, 0xFF#8), (0x2006, 0xFF#8)] }

theorem test_T68_line0 :
    (renderSetup.processScanline Params.standard 0).2.frame.pixel 32 24 = ⟨0xFF#8, 0xFF#8, 0xFF#8, 0xFF#8⟩ ∧
    (renderSetup.processScanline Params.standard 0).2.status = 0x00#8 := by decide +kernel

theorem test_T68_line1 :
    (renderSetup.processScanline Params.standard 1).2.frame.pixel 32 25 = black ∧
    (renderSetup.processScanline Params.standard 1).2.status = 0x65#8 := by decide +kernel

/-- The card of `renderSetup` with other contents of its memory. -/
def card (v : Memory) : Vdp := { renderSetup with vram := v }

/-- T66 (a sentinel in entry 0, and in entry 3), T67 (line 16: the fifth sprite). -/
theorem test_T66_T67 :
    ((card [(0, 0xD0#8)]).processScanline Params.standard 5).2.status = 0x00#8 ∧
    ((card [(0, 0xE0#8), (4, 0xE0#8), (8, 0xE0#8), (12, 0xD0#8)]).processScanline Params.standard 5).2.status = 0x03#8 ∧
    (({ card ([(0, 0x0F#8), (3, 0x01#8), (4, 0x0F#8), (5, 0x10#8), (7, 0x01#8), (8, 0x0F#8), (9, 0x20#8), (11, 0x01#8)] ++
        [(12, 0x0F#8), (13, 0x30#8), (15, 0x01#8), (16, 0x0F#8), (17, 0x40#8), (19, 0x01#8), (20, 0xD0#8)])
        with status := 0x05#8 }).processScanline Params.standard 16).2.status = 0x44#8 := by decide +kernel

/-! ### The VIA (2.8) -/

/-- Register writes, then ticks; how many pulses they emit. -/
def viaRun (l : List (BitVec 4 × Byte)) (n : Nat) (v : Via) : Nat × Via :=
  let w := l.foldl (fun (r : Nat × Via) x => (r.1 + (r.2.writeReg x.1 x.2).1.toNat, (r.2.writeReg x.1 x.2).2)) (0, v)
  (List.range n).foldl (fun r _ => (r.1 + r.2.tick.1.toNat, r.2.tick.2)) w

theorem test_T80_ier :
    ((viaRun [(14#4, 0xC0#8)] 0 Via.cold).2.readReg 14#4).1 = 0xC0#8 ∧
    ((viaRun [(14#4, 0xC0#8), (14#4, 0xA0#8)] 0 Via.cold).2.readReg 14#4).1 = 0xE0#8 ∧
    ((viaRun [(14#4, 0xC0#8), (14#4, 0xA0#8), (14#4, 0x40#8)] 0 Via.cold).2.readReg 14#4).1 = 0xA0#8 := by
  decide +kernel

theorem test_T81_timer_irq :
    (fun r : Nat × Via => (r.1, (r.2.readReg 13#4).1, r.2.t1c))
      (viaRun [(14#4, 0xC0#8), (4#4, 0x01#8), (5#4, 0x00#8)] 2 Via.cold) = (1, 0xC0#8, 0) := by decide +kernel

theorem test_T83_free_run :
    [1, 2, 3, 4, 5].map (fun n => (viaRun [] n
      { Via.cold with acr := 0x40#8, t1l := 3, t1c := 1, t1Running := true }).2.t1c.toNat) = [0, 3, 2, 1, 0] := by decide +kernel

theorem test_T85_pb7 :
    (fun v : Via => (v.orb, (v.readReg 0#4).1))
      (viaRun [(2#4, 0x80#8), (4#4, 0x01#8), (5#4, 0x00#8)] 1 { Via.cold with acr := 0x80#8 }).2 =
      (0x80#8, 0xFF#8) := by decide +kernel

theorem test_T86_T87_T88 :
    (viaRun [(8#4, 0x02#8), (9#4, 0x00#8)] 2 Via.cold).2.ifr = 0x20#7 ∧
    (viaRun [(14#4, 0xC0#8)] 0 { Via.cold with ifr := 0x40#7 }).1 = 1 ∧
    ((viaRun [(13#4, 0x40#8)] 0 { Via.cold with ifr := 0x60#7, ier := 0x20#7 }).2.readReg 13#4).1 = 0xA0#8 := by
  decide +kernel

theorem test_T90_T91 :
    ((({ Via.cold with ddra := 0xF0#8, ora := 0xA5#8 }) : Via).readReg 1#4).1 = 0xAF#8 ∧
    (viaRun [(12#4, 0x0C#8)] 0 Via.cold).2.ca2 = false ∧ (viaRun [(12#4, 0x0E#8)] 0 Via.cold).2.ca2 = true ∧
    (viaRun [(12#4, 0xC0#8)] 0 Via.cold).2.cb2 = false := by decide +kernel

/-- A register write that gains an interrupt: the pulse acts after the writing instruction (T87, R112). -/
theorem test_T87_in_the_machine :
    after (poke 0x4000 [0x8D#8, 0x0E#8, 0x94#8] { ready with
      a := 0xC0#8, rom := vectors, via := { Via.cold with ifr := 0x40#7 } }) (fun t => (t.pc, cell 0x1FC t, cost t)) =
    some (0xA000#16, 0x03#8, 11) := by decide +kernel

/-! ### The sound card (2.9) -/

/-- Register writes to the sound card. -/
def sounds (l : List (BitVec 5 × Byte)) : Sound := l.foldl (fun c w => c.writeReg w.1 w.2) Sound.cold

theorem test_T93_T94_noise :
    (sounds [(18#5, 0x80#8)]).readReg 27#5 = 0xFE#8 ∧ lfsrClock 0x7FFFF8#23 = 0x7FFFF0#23 ∧
    lfsrClock 0x7FFFF0#23 = 0x7FFFE0#23 := by decide +kernel

theorem test_T99_paddles :
    [25#5, 26#5, 0#5, 29#5].map (sounds [(25#5, 0x12#8), (26#5, 0x34#8)]).readReg = [0x12#8, 0x34#8, 0x00#8, 0x00#8] := by
  decide +kernel

/-- Attack nibble 0: the level rises by one every nine SID cycles (T92, T98). -/
theorem test_T98_envelope :
    [8, 9, 126, 127].map (fun n =>
      ((Voice.envCycle Params.standard)^[n] (sounds [(18#5, 0x01#8)]).v2).env.toNat) = [0, 1, 14, 14] := by decide +kernel

/-- In Sustain the level tracks the sustain nibble through the table (R461, R464). -/
theorem test_sustain_tracks :
    (({ Voice.cold with envState := .sustain, sr := 0xA3#8 } : Voice).envCycle Params.standard).env = 0xAA#8 := by
  decide +kernel

/-! ### Reset (2.10) -/

/-- T104: a warm reset keeps RAM and VRAM and resets the rest. -/
theorem test_T104_warm_reset :
    after { ready with
      rom := vectors, ram := [(0x200, 0x55#8)], vdp := { renderSetup with vram := [(0, 0x66#8)] }
      via := { Via.cold with ier := 0x40#7 }, resetRequest := some .warm } (fun t => (cell 0x200 t, t.vdp.vram, t.vdp.regs.r1, t.via.ier, t.pc)) =
      some (0x55#8, [(0, 0x66#8)], 0x00#8, 0x00#7, 0xB000#16) := by decide +kernel

/-- A cold reset clears RAM and VRAM (R672). -/
theorem test_cold_reset :
    after { ready with ram := [(0x200, 0x55#8)], vdp := renderSetup, resetRequest := some .cold }
      (fun t => (t.ram, t.vdp.vram, t.sp, t.p)) = some ([], [], 0xFD#8, 0x20#8) := by decide +kernel

/-- The machine tick that completes a coarse tick: the first scanline, and five samples (T100, T101). -/
theorem test_T100_T101_coarse :
    after { ready with schedAcc := 127, cyclesRemaining := 1 }
      (fun t => (t.schedAcc, t.vdp.scanline, t.snd.out.length, t.snd.sampleAcc)) = some (0, 1, 5, 644800) := by
  decide +kernel

/-- `VIA_TICK_EVERY_CYCLE` (R7, C3): true clocks T1 in every machine tick, once at a coarse one; false only
there. -/
theorem test_via_tick_every_cycle :
    [(true, 0), (true, 127), (false, 0), (false, 127)].map (fun c =>
      (deviceTicks { ready with
        params := { Params.standard with viaTickEveryCycle := c.1 }
        schedAcc := c.2
        via := { Via.cold with t1c := 0x1234#16, t1Running := true } }).via.t1c) =
      [0x1233#16, 0x1233#16, 0x1234#16, 0x1233#16] := by decide +kernel

/-- `withFetchWord` places the instruction where the next step fetches it. -/
theorem test_withFetchWord :
    after (State.reset.withFetchWord 16 0x42A9) (fun t => (t.a, t.pc)) = some (0x42#8, 0x0002#16) := by
  decide +kernel


/-! ### Witnesses: a state and operands that meet the hypotheses of each obligation, clause by clause -/

/-- A step that answers a next state. -/
theorem next_of_after {s : State} (h : after s (fun _ => true) = some true) : ∃ t, step s = .next t := by
  unfold after at h
  split at h
  · exact ⟨_, ‹_›⟩
  · cases h
  · cases h

/-- LDA #$42 is due at `0x4000`. -/
def loading : State := poke 0x4000 [0xA9#8, 0x42#8] ready

theorem witness_EncodeDecode :
    decode [0x00#8] = .ok (.brk, []) ∧ decode [0xFF#8, 0x01#8] = .ok (.nopUnkFF, [0x01#8]) ∧
    decode [0xFD#8, 0xFF#8, 0xFF#8] = .ok (.sbcAbsX 0xFFFF#16, []) := ⟨rfl, rfl, rfl⟩

/-- The addresses on both sides of every edge of the map. -/
theorem witness_AddressMap :
    [0x0000#16, 0x7FFF#16].map (decodeAddr false) = [.ram 0, .ram 0x7FFF] ∧
    [0x8000#16, 0x83FF#16, 0x8400#16, 0x87FF#16].map (decodeAddr false) =
      [.card .ram1 0, .card .ram1 1023, .card .ram2 0, .card .ram2 1023] ∧
    [0x8800#16, 0x8BFF#16, 0x8C00#16, 0x8FFF#16, 0x9000#16, 0x93FF#16].map (decodeAddr false) =
      [.card .rtc 0, .card .rtc 31, .card .storage 0, .card .storage 15, .card .serial 0, .card .serial 3] ∧
    [0x9400#16, 0x97FF#16, 0x9800#16, 0x9BFF#16, 0x9C00#16, 0x9FFF#16].map (decodeAddr false) =
      [.via 0, .via 15, .sound 0, .sound 31, .video false, .video true] ∧
    [0xA000#16, 0xBFFF#16, 0xC000#16, 0xFFFF#16].map (decodeAddr false) =
      [.rom 0x2000, .rom 0x3FFF, .rom 0x4000, .rom 0x7FFF] ∧
    [0xA000#16, 0xBFFF#16, 0xC000#16, 0xFFFF#16].map (decodeAddr true) =
      [.rom 0x2000, .rom 0x3FFF, .cart 0x4000, .cart 0x7FFF] := by decide +kernel

/-- The machine with a Cart. -/
def withCart : State := { ready with params := { Params.standard with cartPresent := true } }

theorem witness_BusReadEffect :
    plainAt 0x0000#16 ready ∧ plainAt 0x7FFF#16 ready ∧ plainAt 0xA000#16 ready ∧ plainAt 0xFFFF#16 ready ∧
    plainAt 0xC000#16 withCart ∧ ready.params.cartPresent = false ∧ withCart.params.cartPresent = true :=
  ⟨rfl, rfl, rfl, rfl, rfl, rfl, rfl⟩

theorem witness_BusWriteEffect :
    plainAt 0x7FFF#16 ready ∧ (0x7FFF#16 : Word) ≠ 0x0000#16 ∧ Memory.wf ready.ram = true :=
  ⟨rfl, by decide, rfl⟩

theorem witness_StepRunsDecoded : ∃ u rest,
    loading.resetRequest = none ∧ loading.cyclesRemaining = 0 ∧ loading.params.isaTier = .baseAndCmos ∧
    plainFetch loading ∧
    decode [byteAtPc 0 loading, byteAtPc 1 loading, byteAtPc 2 loading] = .ok (.ldaImm 0x42#8, rest) ∧
    exec (.ldaImm 0x42#8) { loading with pc := loading.pc + BitVec.ofNat 16 (Instr.ldaImm 0x42#8).length } =
      .next u := ⟨_, _, rfl, rfl, rfl, ⟨rfl, rfl, rfl⟩, rfl, rfl⟩

/-- An undefined opcode and one of tier `cmos` under `ISA_TIER = base`. -/
def baseTier (op : Byte) : State :=
  poke 0x4000 [op] { ready with params := { Params.standard with isaTier := .base } }

theorem witness_StepOtherwise :
    (State.reset.resetRequest = none ∧ State.reset.cyclesRemaining ≠ 0) ∧
    ({ ready with resetRequest := some .warm } : State).resetRequest = some .warm ∧
    (baseTier 0x12#8).params.isaTier = .base ∧ plainAt (baseTier 0x12#8).pc (baseTier 0x12#8) ∧
    byteAtPc 0 (baseTier 0x12#8) ∈ cmosOpcodes ++ undefinedOpcodes ∧
    byteAtPc 0 (baseTier 0xFF#8) ∈ cmosOpcodes ++ undefinedOpcodes ∧ (baseTier 0x12#8).posted = [] ∧
    State.reset.schedAcc + 1 < State.reset.params.tickInterval ∧
    ({ State.reset with schedAcc := 127 } : State).params.tickInterval ≤ 127 + 1 ∧
    ParamsOk (baseTier 0x12#8) := by
  refine ⟨⟨rfl, by decide⟩, rfl, rfl, rfl, by decide +kernel, by decide +kernel, rfl, by decide, by decide, ?_⟩
  exact (by decide +kernel : (baseTier 0x12#8).params.wf = true)

theorem witness_LoadResult :
    ldaForm (.imm 0x00#8) = some (.ldaImm 0x00#8) ∧ ldaForm (.mem (.absX 0xFFFF#16)) = some (.ldaAbsX 0xFFFF#16) ∧
    ldxForm (.mem (.zpY 0xFF#8)) = some (.ldxZpY 0xFF#8) ∧ ldyForm (.mem (.absX 0xFFFF#16)) = some (.ldyAbsX 0xFFFF#16) :=
  ⟨rfl, rfl, rfl, rfl⟩

theorem witness_StoreResult :
    staForm (.indY 0xFF#8) = some (.staIndY 0xFF#8) ∧ stxForm (.zpY 0xFF#8) = some (.stxZpY 0xFF#8) ∧
    styForm (.zpX 0x00#8) = some (.styZpX 0x00#8) ∧ stzForm (.absX 0xFFFF#16) = some (.stzAbsX 0xFFFF#16) :=
  ⟨rfl, rfl, rfl, rfl⟩

theorem witness_StoreFrame : ∃ t u,
    (∃ f ∈ storeForms, f (.abs 0x0000#16) = some (.staAbs 0x0000#16)) ∧
    exec (.staAbs 0x0000#16) ready = .next t ∧
    (∃ f ∈ storeForms ++ modifyForms, f (.zp 0xFF#8) = some (.rorZp 0xFF#8)) ∧
    exec (.rorZp 0xFF#8) ready = .next u ∧ plainAt 0x7FFF#16 ready ∧ 0x7FFF#16 ≠ eaOf (.zp 0xFF#8) ready :=
  ⟨_, _, ⟨staForm, by simp [storeForms], rfl⟩, rfl, ⟨rorForm, by simp [storeForms, modifyForms], rfl⟩, rfl, rfl,
    by decide⟩

theorem witness_ReadFrame : ∃ t,
    (∃ f ∈ readForms, f (.mem (.indY 0xFF#8)) = some (.oraIndY 0xFF#8)) ∧
    exec (.oraIndY 0xFF#8) ready = .next t ∧ ldxForm (.mem (.indY 0xFF#8)) ≠ some (.oraIndY 0xFF#8) ∧
    (∀ f ∈ [adcForm, sbcForm, bitForm], f (.mem (.indY 0xFF#8)) ≠ some (.oraIndY 0xFF#8)) :=
  ⟨_, ⟨oraForm, by simp [readForms, formsToA], rfl⟩, rfl, by simp [ldxForm], by simp [adcForm, sbcForm, bitForm]⟩

/-- A form that leaves `A` alone, and one that leaves `X` and `Y`. -/
theorem witness_ReadFrame_compare : ∃ t,
    (∃ f ∈ readForms, f (.imm 0xFF#8) = some (.cpxImm 0xFF#8)) ∧ exec (.cpxImm 0xFF#8) ready = .next t ∧
    (∀ f ∈ formsToA, f (.imm 0xFF#8) ≠ some (.cpxImm 0xFF#8)) :=
  ⟨_, ⟨cpxForm, by simp [readForms, formsToFlags], rfl⟩, rfl,
    by simp [formsToA, ldaForm, adcForm, sbcForm, andForm, oraForm, eorForm]⟩

theorem witness_RegisterFrame : ∃ t u,
    (Instr.inx ∈ registerInstrs ++ undefinedInstrs ∧ exec .inx ready = .next t ∧ Instr.inx ≠ .txs) ∧
    Instr.nopUnkFF ∈ registerInstrs ++ undefinedInstrs ∧ exec .nopUnkFF ready = .next u :=
  ⟨_, _, ⟨by decide +kernel, rfl, by decide⟩, by decide +kernel, rfl⟩

theorem witness_PushResult : ∃ t,
    (Instr.php = .pha ∧ 0x30#8 = ready.a ∨ Instr.php = .php ∧ 0x30#8 = ready.p ||| 0x30#8 ∨
      Instr.php = .phx ∧ 0x30#8 = ready.x ∨ Instr.php = .phy ∧ 0x30#8 = ready.y) ∧
    exec .php ready = .next t ∧ plainAt 0x01FE#16 ready ∧
    (0x01FE#16 : Word).toNat ≠ 0x0100 + ready.sp.toNat := ⟨_, .inr (.inl ⟨rfl, rfl⟩), rfl, rfl, by decide⟩

/-- Decimal mode. -/
def decimal (a : Byte) : State := { ready with a := a, p := 0x28#8 }

theorem witness_AdcBinaryResult :
    adcForm (.imm 0xFF#8) = some (.adcImm 0xFF#8) ∧ adcForm (.mem (.zpInd 0xFF#8)) = some (.adcZpInd 0xFF#8) ∧
    ready.flag .d = false := ⟨rfl, rfl, rfl⟩

theorem witness_SbcBinaryResult :
    sbcForm (.imm 0xFF#8) = some (.sbcImm 0xFF#8) ∧ (decimal 0x00#8).flag .d = true ∧
    ({ decimal 0x00#8 with params := { Params.standard with decimalImplemented := false } } :
      State).params.decimalImplemented = false := ⟨rfl, rfl, rfl⟩

theorem witness_DecimalAddResult :
    adcForm (.imm 0x99#8) = some (.adcImm 0x99#8) ∧ (decimal 0x99#8).flag .d = true ∧
    (decimal 0x99#8).params.decimalImplemented = true ∧ validBcd (decimal 0x99#8).a = true ∧
    validBcd (readOperand (.imm 0x99#8) (decimal 0x99#8)).1 = true := ⟨rfl, rfl, rfl, rfl, rfl⟩

theorem witness_DecimalSubResult :
    sbcForm (.imm 0x99#8) = some (.sbcImm 0x99#8) ∧ (decimal 0x00#8).flag .d = true ∧
    (decimal 0x00#8).params.decimalImplemented = true ∧ validBcd (decimal 0x00#8).a = true ∧
    validBcd (readOperand (.imm 0x99#8) (decimal 0x00#8)).1 = true := ⟨rfl, rfl, rfl, rfl, rfl⟩

theorem witness_OpenDecimalResult : ∃ free,
    (adcForm (.imm 0x0A#8) = some (.adcImm 0x0A#8) ∨ sbcForm (.imm 0x0A#8) = some (.adcImm 0x0A#8)) ∧
    (decimal 0x00#8).flag .d = true ∧ (decimal 0x00#8).params.decimalImplemented = true ∧
    (validBcd (decimal 0x00#8).a = false ∨ validBcd (readOperand (.imm 0x0A#8) (decimal 0x00#8)).1 = false) ∧
    Config.bcdResult (decimal 0x00#8).bcdDrawn = free := ⟨_, .inl rfl, rfl, rfl, .inr rfl, rfl⟩

theorem witness_LogicResult :
    andForm (.imm 0x00#8) = some (.andImm 0x00#8) ∧ oraForm (.mem (.indX 0xFF#8)) = some (.oraIndX 0xFF#8) ∧
    eorForm (.mem (.absY 0xFFFF#16)) = some (.eorAbsY 0xFFFF#16) := ⟨rfl, rfl, rfl⟩

theorem witness_CompareResult :
    cmpForm (.mem (.absX 0xFFFF#16)) = some (.cmpAbsX 0xFFFF#16) ∧ cpxForm (.imm 0xFF#8) = some (.cpxImm 0xFF#8) ∧
    cpyForm (.mem (.abs 0x0000#16)) = some (.cpyAbs 0x0000#16) := ⟨rfl, rfl, rfl⟩

theorem witness_BitTestResult :
    bitForm (.imm 0x00#8) = some (.bitImm 0x00#8) ∧ bitForm (.mem (.absX 0xFFFF#16)) = some (.bitAbsX 0xFFFF#16) :=
  ⟨rfl, rfl⟩

theorem witness_IncDecResult :
    incForm (.zp 0x00#8) = some (.incZp 0x00#8) ∧ decForm (.absX 0xFFFF#16) = some (.decAbsX 0xFFFF#16) :=
  ⟨rfl, rfl⟩

theorem witness_TestBitsResult :
    trbForm (.zp 0x00#8) = some (.trbZp 0x00#8) ∧ tsbForm (.abs 0xFFFF#16) = some (.tsbAbs 0xFFFF#16) := ⟨rfl, rfl⟩

theorem witness_ShiftResult :
    aslForm (.zp 0x00#8) = some (.aslZp 0x00#8) ∧ lsrForm (.zpX 0xFF#8) = some (.lsrZpX 0xFF#8) ∧
    rolForm (.abs 0x0000#16) = some (.rolAbs 0x0000#16) ∧ rorForm (.absX 0xFFFF#16) = some (.rorAbsX 0xFFFF#16) :=
  ⟨rfl, rfl, rfl, rfl⟩

theorem witness_CallReturnResult : ∃ t u,
    Memory.wf ready.ram = true ∧ exec (.jsr 0xFFFF#16) ready = .next t ∧ exec .rts t = .next u ∧
    plainAt 0x01FE#16 ready ∧ (0x01FE#16 : Word).toNat ≠ 0x0100 + ready.sp.toNat ∧
    (0x01FE#16 : Word).toNat ≠ 0x0100 + (ready.sp - 1).toNat := ⟨_, _, rfl, rfl, rfl, rfl, by decide, by decide⟩

theorem witness_ParamsOk : ParamsOk ready := (by decide +kernel : ready.params.wf = true)

theorem witness_FlagAndNoOperationResult :
    Instr.nopUnk02 ∈ undefinedInstrs ∧ Instr.nopUnkFF ∈ undefinedInstrs ∧ ParamsOk ready :=
  ⟨by decide +kernel, by decide +kernel, witness_ParamsOk⟩

theorem witness_TrapEntry :
    ready.flag .i = false ∧ ({ ready with p := 0x24#8 } : State).flag .i = true := ⟨rfl, rfl⟩

theorem witness_BreakResult : ∃ t, ParamsOk ready ∧ exec .brk ready = .next t ∧ plainAt 0x01FE#16 ready ∧
    (0x01FE#16 : Word).toNat ≠ 0x0100 + ready.sp.toNat ∧
    (0x01FE#16 : Word).toNat ≠ 0x0100 + (ready.sp - 1).toNat ∧
    (0x01FE#16 : Word).toNat ≠ 0x0100 + (ready.sp - 2).toNat :=
  ⟨_, witness_ParamsOk, rfl, rfl, by decide, by decide, by decide⟩

theorem witness_EntriesAndReturns : Memory.wf ready.ram = true ∧ ready.flag .i = false := ⟨rfl, rfl⟩

theorem witness_EveryStepGoesOn : ∃ t, ParamsOk ready ∧ step loading = .next t :=
  (next_of_after (by decide +kernel)).imp fun _ h => ⟨witness_ParamsOk, h⟩

theorem witness_CycleCounts : ∃ t, loading.resetRequest = none ∧ step loading = .next t :=
  (next_of_after (by decide +kernel)).imp fun _ h => ⟨rfl, h⟩

theorem witness_StepKeepsStatus : ∃ t, StatusOk loading ∧ step loading = .next t :=
  (next_of_after (by decide +kernel)).imp fun _ h => ⟨⟨rfl, rfl⟩, h⟩

theorem witness_StepKeepsStores : ∃ t, StoresOk loading ∧ step loading = .next t :=
  (next_of_after (by decide +kernel)).imp fun _ h => ⟨⟨rfl, rfl, rfl, rfl⟩, h⟩

theorem witness_StepKeepsConfiguration : ∃ t, step loading = .next t ∧ SchedOk loading :=
  (next_of_after (by decide +kernel)).imp fun _ h => ⟨h, by decide, rfl⟩

theorem witness_StepKeepsVideo : ∃ t, Vdp.Ok loading.params loading.vdp ∧ step loading = .next t :=
  (next_of_after (by decide +kernel)).imp fun _ h =>
    ⟨⟨by decide +kernel, by decide +kernel, by decide +kernel, by decide +kernel⟩, h⟩

theorem witness_StepKeepsSound : ∃ t,
    ParamsOk loading ∧ Sound.Ok loading.params loading.snd ∧ step loading = .next t :=
  (next_of_after (by decide +kernel)).imp fun _ h =>
    ⟨witness_ParamsOk, ⟨⟨by decide, by decide, by decide⟩, by decide, fun _ hx => nomatch hx⟩, h⟩

theorem witness_StepKeepsVia : ∃ t, Via.Ok loading.via ∧ step loading = .next t :=
  (next_of_after (by decide +kernel)).imp fun _ h =>
    ⟨⟨⟨rfl, rfl, rfl, rfl⟩, ⟨fun _ => rfl, fun _ => rfl, nofun⟩, rfl, ⟨by decide, .nil⟩, by decide, .nil⟩, h⟩

/-- T1 loaded with 1, with `0xFFFF`, and halted at 0 with a reload pending. -/
def timer (n : Word) : Via := { Via.cold with t1c := n, t1Running := true }

theorem witness_TimerExpiry :
    ((timer 1).t1c.toNat = 1 ∧ (timer 1).t1Running = true ∧ (timer 1).t1ReloadPending = false) ∧
    (timer 0xFFFF#16).t1c.toNat = 65535 ∧
    ({ timer 0 with t1l := 1, t1ReloadPending := true, acr := 0x40#8 } : Via).t1l.toNat = 1 ∧
    ({ timer 0 with t1l := 1, t1ReloadPending := true, acr := 0x40#8 } : Via).acr.getLsbD 6 = true :=
  ⟨⟨rfl, rfl, rfl⟩, rfl, rfl, rfl⟩

/-- A port list of one attachment whose answers are listed. -/
def attached : Via := { Via.cold with portA := [⟨0, [true], [0x7E#8], []⟩] }

theorem witness_PortRead : (∀ t ∈ attached.list .a, t.enabled ≠ [] ∧ t.reads ≠ []) ∧ attached.list .a ≠ [] := by
  decide

theorem witness_VideoPorts :
    (0x9C00 ≤ (0x9C00#16 : Word).toNat ∧ (0x9C00#16 : Word).toNat % 2 = 0) ∧
    ((0x9FFF#16 : Word).toNat < 0xA000 ∧ (0x9FFF#16 : Word).toNat % 2 = 1) ∧
    Vdp.cold.latched = false ∧ (Vdp.cold.writeControl 0xFF#8).latched = true ∧
    ((0x80#8 : Byte).getLsbD 7 = true ∧ (0x40#8 : Byte).getLsbD 7 = false ∧ (0x40#8 : Byte).getLsbD 6 = true) ∧
    (0x3F#8 : Byte).getLsbD 7 = false ∧ (0x3F#8 : Byte).getLsbD 6 = false ∧ Memory.wf Vdp.cold.vram = true := by
  decide

/-- The card with its vertical interrupt on, and with its display on. -/
def lineCard (r1 : Byte) : Vdp := { card [(0, 0xD0#8)] with regs := { renderSetup.regs with r1 := r1 } }

theorem witness_ScanlineRules :
    (lineCard 0x20#8).regs.ie = true ∧ (lineCard 0x20#8).regs.displayOn = false ∧ (lineCard 0x00#8).regs.ie = false ∧
    (lineCard 0x20#8).frame.wf = true ∧ ((lineCard 0x20#8).processScanline Params.standard 191).1 = true ∧
    ((lineCard 0x20#8).processScanline Params.standard 190).1 = false := by decide +kernel

theorem witness_Graphics1Pixel :
    (lineCard 0x40#8).frame.wf = true ∧ (lineCard 0x40#8).regs.displayOn = true ∧
    (lineCard 0x40#8).regs.mode = .graphics1 ∧ (lineCard 0x40#8).spriteAttr 0 0 = 0xD0#8 := by decide +kernel

/-- Five sprites on lines 1 to 8. -/
def fiveSprites : Vdp := card []

theorem witness_SpriteFlags :
    fiveSprites.regs.displayOn = true ∧ fiveSprites.regs.mode ≠ .text ∧
    (∀ n, n < 5 → fiveSprites.spriteAttr n 0 ≠ 0xD0#8 ∧ spriteY (fiveSprites.spriteAttr n 0) ≤ (1 : Int) ∧
      (1 : Int) < spriteY (fiveSprites.spriteAttr n 0) +
        ((fiveSprites.regs.spriteSize * (1 + fiveSprites.regs.mag) : Nat) : Int)) ∧
    (card [(0, 0xD0#8)]).spriteAttr 0 0 = 0xD0#8 ∧
    ({ fiveSprites with status := 0x60#8 } : Vdp).status.getLsbD 6 = true ∧
    ({ fiveSprites with status := 0x60#8 } : Vdp).status.getLsbD 5 = true := by decide +kernel

theorem witness_SoundReads :
    0x9800 ≤ (0x9800#16 : Word).toNat ∧ (0x9BFF#16 : Word).toNat < 0x9C00 ∧ (0x9819#16 : Word).toNat % 32 = 25 ∧
    (0x981A#16 : Word).toNat % 32 = 26 ∧ (0x981B#16 : Word).toNat % 32 = 27 ∧ (0x981C#16 : Word).toNat % 32 = 28 := by
  decide

theorem witness_EnvelopeRules :
    Voice.cold.ctrl.getLsbD 0 = false ∧ ({ Voice.cold with ctrl := 0x01#8 } : Voice).ctrl.getLsbD 0 = true ∧
    Voice.cold.envState = .release ∧ ({ Voice.cold with envState := .attack } : Voice).envState ≠ .sustain ∧
    ({ Voice.cold with envState := .decay } : Voice).envState = .decay ∧
    ({ Voice.cold with envState := .sustain } : Voice).envState = .sustain ∧ Params.standard.wf = true := by
  decide +kernel

theorem witness_SampleRule :
    Sound.cold.sampleAcc + Params.standard.sampleRateHz < Params.standard.sidClockHz ∧
    Params.standard.sidClockHz ≤
      ({ Sound.cold with sampleAcc := 955900 } : Sound).sampleAcc + Params.standard.sampleRateHz := by decide

theorem witness_SoundNoninterference :
    Sound.cold.v0 = ({ Sound.cold with lp := 1, resFilt := 0xFF#8 } : Sound).v0 ∧
    Sound.cold.v1 = ({ Sound.cold with lp := 1, resFilt := 0xFF#8 } : Sound).v1 ∧
    Sound.cold.v2 = ({ Sound.cold with lp := 1, resFilt := 0xFF#8 } : Sound).v2 ∧
    Sound.cold.potx = ({ Sound.cold with lp := 1, resFilt := 0xFF#8 } : Sound).potx ∧
    Sound.cold.poty = ({ Sound.cold with lp := 1, resFilt := 0xFF#8 } : Sound).poty := ⟨rfl, rfl, rfl, rfl, rfl⟩

end Sys2Proof.Tests
end

section
/-! The flags of a result (R13), and the `V` of a binary addition or subtraction as signed overflow (R24,
R220, R221). -/

namespace Sys2Proof.Machine

/-! ### A byte as a signed number -/

theorem isNeg_eq_decide (x : Byte) : isNeg x = decide (128 ≤ x.toNat) := x.msb_eq_decide

/-- Inverting an operand makes it `-m - 1`, so that the addition of R221 subtracts. -/
theorem toInt_xor_ones (m : Byte) : (m ^^^ 0xFF#8).toInt = -m.toInt - 1 := by
  have inverted : m ^^^ 0xFF#8 = ~~~m := BitVec.xor_allOnes
  rw [inverted, BitVec.toInt_eq_toNat_cond, BitVec.toInt_eq_toNat_cond, BitVec.toNat_not]
  omega

/-! ### The overflow of a binary addition or subtraction -/

/-- R220's overflow bit: both operands differ in sign from the result. -/
theorem adcBinary_v_iff_signs (a m : Byte) (c : Bool) :
    (adcBinary a m c).v = true ↔
      isNeg a ≠ isNeg (adcBinary a m c).value ∧ isNeg m ≠ isNeg (adcBinary a m c).value := by
  simp [adcBinary, isNeg]

theorem adcBinary_value_toNat (a m : Byte) (c : Bool) :
    (adcBinary a m c).value.toNat = (a.toNat + m.toNat + c.toNat) % 256 := rfl

theorem adcBinary_v_iff (a m : Byte) (c : Bool) :
    (adcBinary a m c).v = true ↔
      a.toInt + m.toInt + c.toNat < -128 ∨ 127 < a.toInt + m.toInt + c.toNat := by
  have carry : c.toNat ≤ 1 := c.toNat_le
  have result := adcBinary_value_toNat a m c
  rw [adcBinary_v_iff_signs, a.toInt_eq_toNat_cond, m.toInt_eq_toNat_cond]
  simp only [isNeg_eq_decide, ne_eq, decide_eq_decide]
  omega

theorem sbcBinary_v_iff (a m : Byte) (c : Bool) :
    (sbcBinary a m c).v = true ↔
      a.toInt - m.toInt - (1 - c.toNat) < -128 ∨ 127 < a.toInt - m.toInt - (1 - c.toNat) := by
  have difference :
      a.toInt + (m ^^^ 0xFF#8).toInt + c.toNat = a.toInt - m.toInt - (1 - c.toNat) := by
    rw [toInt_xor_ones]
    omega
  rw [← difference]
  exact adcBinary_v_iff a (m ^^^ 0xFF#8) c

/-- Settles O18: `N` and `Z` by what `nzBits` does to each flag, `V` by the signs of the operands and the
result. -/
theorem resultFlags : Obligations.ResultFlags := by
  refine ⟨fun r p => ⟨?zero, ?negative, ?others⟩, fun a m c => ⟨?sum, ?difference⟩⟩
  case zero => simp [getFlag_nzBits, isZero]
  case negative => simp [getFlag_nzBits, isNeg]
  case others =>
    intro f notZ notN
    simp [getFlag_nzBits, notZ, notN]
  case sum => cases c <;> exact adcBinary_v_iff a m _
  case difference => cases c <;> exact sbcBinary_v_iff a m _

end Sys2Proof.Machine
end

section
/-! What every step keeps, said once: a property that each bus cycle, each change of the CPU's own registers,
each part of the device half and each reset keeps is kept by every step. -/

namespace Sys2Proof.Machine

/-! ### The video card's tick as a function on the card

Taking a trap neither reads nor writes the video card, so the pulses that the scanlines of one tick emit can
be delivered after all of them: the card's own part of the tick is a function on the card. -/

/-- The turns of the pacing loop (R370) on the card alone. -/
def Vdp.lineTurns (p : Params) (perLine : Rat) : Nat → Vdp → Vdp
  | 0, d => d
  | n + 1, d => if perLine ≤ d.pace then Vdp.lineTurns p perLine n (d.nextLine p perLine).2.2 else d

/-- The tick of R370 on the card alone. -/
def Vdp.tick (p : Params) (d : Vdp) : Vdp :=
  let pace := d.pace + (p.tickInterval : Rat)
  Vdp.lineTurns p (cyclesPerLine p) (pace / cyclesPerLine p).floor.toNat { d with pace := pace }

/-- Put a video card and the FrameReady of this machine tick. -/
def State.putVideo (d : Vdp) (ready : Bool) (s : State) : State := { s with vdp := d, frameReady := ready }

theorem trapEnter_putVideo {v : Word} (hv : 0xFFFA#16 ≤ v) (hv' : 0xFFFA#16 ≤ v + 1) (b : Bool) (d : Vdp)
    (ready : Bool) (s : State) :
    trapEnter v b (s.putVideo d ready) = (trapEnter v b s).putVideo d ready := by
  have vector : vectorWord v (s.putVideo d ready) = vectorWord v s :=
    congrArg₂ word (byteAt_vector hv' rfl rfl rfl) (byteAt_vector hv rfl rfl rfl)
  rw [trapEnter_eq hv hv', trapEnter_eq hv hv', vector]
  rfl

theorem deliver_putVideo (d : Vdp) (ready : Bool) (s : State) (p : Pulse) :
    deliver (s.putVideo d ready) p = (deliver s p).putVideo d ready := by
  have enter {v : Word} (hv : 0xFFFA#16 ≤ v ∧ 0xFFFA#16 ≤ v + 1) :=
    congrArg (State.addCycles 7) (trapEnter_putVideo hv.1 hv.2 false d ready s)
  cases p with
  | nmi => exact enter nmiVector_le
  | irq =>
    cases masked : s.flag .i with
    | true =>
      have masked' : (s.putVideo d ready).flag .i = true := masked
      simp only [deliver, irqPulse_lost masked, irqPulse_lost masked']
    | false =>
      have masked' : (s.putVideo d ready).flag .i = false := masked
      simp only [deliver, irqPulse_taken masked, irqPulse_taken masked']
      exact enter irqVector_le

theorem deliverAll_putVideo (ps : List Pulse) (d : Vdp) (ready : Bool) (s : State) :
    deliverAll ps (s.putVideo d ready) = (deliverAll ps s).putVideo d ready := by
  induction ps generalizing s with
  | nil => rfl
  | cons p ps ih => exact (congrArg (deliverAll ps) (deliver_putVideo d ready s p)).trans (ih _)

theorem vdpLoop_eq_pulses (perLine : Rat) (n : Nat) (s : State) : ∃ ps ready,
    vdpLoop perLine n s = deliverAll ps (s.putVideo (s.vdp.lineTurns s.params perLine n) ready) := by
  induction n generalizing s with
  | zero => exact ⟨[], s.frameReady, rfl⟩
  | succ n ih =>
    unfold vdpLoop Vdp.lineTurns
    split
    · obtain ⟨ps, ready, later⟩ := ih (vdpTurn perLine s)
      let line := s.vdp.nextLine s.params perLine
      let turned := s.putVideo line.2.2 (s.frameReady || line.2.1)
      have turn : vdpTurn perLine s = deliverAll (irqIf line.1) turned := rfl
      have kept := deliverAll_keepsDevices (irqIf line.1) turned
      refine ⟨irqIf line.1 ++ ps, ready, ?_⟩
      rw [later, turn, kept.vdp, kept.params, ← deliverAll_putVideo]
      exact (List.foldl_append ..).symm
    · exact ⟨[], s.frameReady, rfl⟩

/-- The tick of the video card in the machine: the card's own tick, then the pulses it emitted. -/
theorem vdpTick_eq_pulses (s : State) :
    ∃ ps ready, vdpTick s = deliverAll ps (s.putVideo (s.vdp.tick s.params) ready) :=
  vdpLoop_eq_pulses _ _ { s with vdp := { s.vdp with pace := s.vdp.pace + (s.params.tickInterval : Rat) } }

/-! ### The CPU tick, the reset and the step -/

theorem cpuReset_statusOk (s : State) : StatusOk (cpuReset s) := by
  have zeroed : fixedBits 0x20#8 = (false, true) := by decide
  rw [statusOk_iff, cpuReset_eq, zeroed]

/-- The reset of the CPU changes only the CPU's own registers (R670). -/
theorem cpuReset_path (s : State) : BusPath s (cpuReset s) := by
  refine BusPath.refl.cpu ?_ fun _ => cpuReset_statusOk s
  rw [cpuReset_eq]
  exact sameMachine_refl s

/-- What one CPU tick can do (R111): a cycle passes, after the next instruction when none remained. -/
theorem cpuTick_cases (s : State) :
    (s.cyclesRemaining ≠ 0 ∧ cpuTick s = .next (countCycle s)) ∨
      s.cyclesRemaining = 0 ∧
        ∃ t, BusPath s t ∧ executeInstruction s = .next { t with posted := [] } ∧
          cpuTick s = .next (countCycle { t with posted := [] }) := by
  by_cases idle : s.cyclesRemaining = 0
  · obtain ⟨t, ht, path⟩ := executeInstruction_path s
    exact .inr ⟨idle, t, path, ht, by simp [cpuTick, idle, ht]⟩
  · exact .inl ⟨idle, by simp [cpuTick, idle]⟩

theorem cpuTick_goesOn (s : State) : ∃ t, cpuTick s = .next t := by
  obtain ⟨-, passed⟩ | ⟨-, _, -, -, ran⟩ := cpuTick_cases s
  · exact ⟨_, passed⟩
  · exact ⟨_, ran⟩

/-- What one step can do: the reset the host asked for, or a machine tick. -/
theorem step_cases {s t : State} (h : step s = .next t) :
    (∃ k, s.resetRequest = some k ∧ t = machineReset k s) ∨
      s.resetRequest = none ∧ ∃ u, cpuTick s = .next u ∧ t = deviceTicks u := by
  obtain ⟨u, hu⟩ := cpuTick_goesOn s
  cases request : s.resetRequest with
  | some k =>
    have taken : machineReset k s = t := by simpa [step, request] using h
    exact .inl ⟨k, rfl, taken.symm⟩
  | none =>
    have ticked : deviceTicks u = t := by simpa [step, request, machineTick, hu] using h
    exact .inr ⟨rfl, u, hu, ticked.symm⟩

/-! ### What each part keeps -/

/-- Bus cycles and changes of the CPU's own registers keep the property. -/
structure KeptByBus (P : State → Prop) : Prop where
  cpu {s t : State} : sameMachine s t → (StatusOk s → StatusOk t) → P s → P t
  read (a : Word) {s : State} : P s → P (memRead a s).2
  write (a : Word) (x : Byte) {s : State} : P s → P (memWrite a x s)

/-- A delivered pulse and the tick of each device keep the property (R110). -/
structure KeptByDevices (P : State → Prop) : Prop where
  pulse (p : Pulse) {s : State} : P s → P (deliver s p)
  cards (k : Slots) {s : State} : P s → P { s with slots := k }
  via {s : State} : P s → P { s with via := s.via.tick.2 }
  sound {s : State} : P s → P (soundTick s)
  video (ready : Bool) {s : State} : P s → P (s.putVideo (s.vdp.tick s.params) ready)
  scheduler (acc : Nat) (ready : Bool) {s : State} :
    P s → P { s with schedAcc := acc, frameReady := ready }

/-- Every part of a step keeps the property. -/
structure KeptByStep (P : State → Prop) : Prop where
  bus : KeptByBus P
  posted {s : State} : P s → P { s with posted := [] }
  devices : KeptByDevices P
  reset (k : ResetKind) {s : State} : P s → P (resetDevices k s)

section
variable {P : State → Prop} {s t : State}

theorem KeptByBus.path (kept : KeptByBus P) (h : BusPath s t) (hs : P s) : P t := by
  induction h with
  | refl => exact hs
  | cpu _ same status ih => exact kept.cpu same status ih
  | read a _ ih => exact kept.read a ih
  | write a x _ ih => exact kept.write a x ih

theorem KeptByBus.pulse (kept : KeptByBus P) (p : Pulse) (hs : P s) : P (deliver s p) :=
  kept.path (deliver_path s p) hs

theorem KeptByBus.cpuTick (kept : KeptByBus P) (posted : ∀ {u : State}, P u → P { u with posted := [] })
    (hs : P s) (h : cpuTick s = .next t) : P t := by
  have count {u : State} : P u → P (countCycle u) := kept.cpu (sameMachine_refl u) id
  obtain ⟨-, passed⟩ | ⟨-, u, path, -, ran⟩ := cpuTick_cases s
  · cases passed.symm.trans h
    exact count hs
  · cases ran.symm.trans h
    exact count (posted (kept.path path hs))

theorem KeptByDevices.deliverAll (kept : KeptByDevices P) (ps : List Pulse) (hs : P s) :
    P (deliverAll ps s) := by
  induction ps generalizing s with
  | nil => exact hs
  | cons p ps ih => exact ih (kept.pulse p hs)

theorem KeptByDevices.cardTick (kept : KeptByDevices P) (c : CardId) (hs : P s) : P (cardTick c s) :=
  kept.deliverAll _ (kept.cards _ hs)

theorem KeptByDevices.viaTickAt (kept : KeptByDevices P) (coarse : Bool) (hs : P s) :
    P (viaTickAt coarse s) := by
  unfold Machine.viaTickAt
  split
  · exact kept.deliverAll _ (kept.via hs)
  · exact hs

theorem KeptByDevices.vdpTick (kept : KeptByDevices P) (hs : P s) : P (vdpTick s) := by
  obtain ⟨ps, ready, ticked⟩ := vdpTick_eq_pulses s
  rw [ticked]
  exact kept.deliverAll ps (kept.video ready hs)

theorem KeptByDevices.coarseTicks (kept : KeptByDevices P) (hs : P s) : P (coarseTicks s) :=
  kept.vdpTick <| kept.sound <| kept.viaTickAt true <| kept.cardTick .storage <| kept.cardTick .rtc <|
    kept.cardTick .ram2 <| kept.cardTick .ram1 hs

/-- The device half of the machine tick (R110). -/
theorem KeptByDevices.deviceTicks (kept : KeptByDevices P) (hs : P s) : P (deviceTicks s) := by
  have fine := kept.viaTickAt false (kept.cardTick .serial (kept.scheduler s.schedAcc false hs))
  unfold Machine.deviceTicks
  simp only
  split
  · exact kept.coarseTicks (kept.scheduler _ _ fine)
  · exact kept.scheduler _ _ fine

/-- The step keeps what each of its parts keeps. -/
theorem KeptByStep.step (kept : KeptByStep P) (hs : P s) (h : step s = .next t) : P t := by
  obtain ⟨k, -, rfl⟩ | ⟨-, u, ticked, rfl⟩ := step_cases h
  · exact kept.bus.path (cpuReset_path _) (kept.reset k hs)
  · exact kept.devices.deviceTicks (kept.bus.cpuTick kept.posted hs ticked)

end

end Sys2Proof.Machine
end

section
/-! What the rasterizer can do to the video card, said once: every active line has 256 pixels, a scanline
changes the picture, the status and the count of free lines and nothing else, and the picture keeps its form. -/

namespace Sys2Proof.Machine

/-! ### Pictures -/

/-- The canonical form of a picture, spelt out. -/
theorem Frame.wf_iff (f : Frame) :
    f.wf = true ↔ sparseSortedFrom 0 f.rows = true ∧
      ∀ r ∈ f.rows, r.1 < activeRows ∧ r.2.length = activeColumns ∧
        r.2 ≠ List.replicate activeColumns f.fill := by
  simp [Frame.wf, and_assoc]

/-- A picture of one colour is in its form. -/
theorem Frame.wf_fill (c : Rgba) : Frame.wf ⟨c, []⟩ = true := rfl

/-- A row of 256 pixels put inside the active rows keeps the form. -/
theorem Frame.wf_setRow {f : Frame} {y : Nat} {line : List Rgba} (h : f.wf = true) (hy : y < activeRows)
    (hl : line.length = activeColumns) : (f.setRow y line).wf = true := by
  obtain ⟨sorted, rows⟩ := f.wf_iff.1 h
  rw [Frame.wf_iff]
  unfold Frame.setRow
  split
  · exact ⟨sparseSortedFrom_erase y sorted, fun r hr => rows r (mem_sparseErase hr)⟩
  · next differs =>
    refine ⟨sparseSortedFrom_insert line sorted (Nat.zero_le y), fun r hr => ?_⟩
    obtain rfl | old := mem_sparseInsert hr
    · exact ⟨hy, hl, differs⟩
    · exact rows r old

/-! ### The 256 pixels of a line -/

theorem length_flatMap_range {α : Type} {f : Nat → List α} {k : Nat} (h : ∀ i, (f i).length = k) (n : Nat) :
    ((List.range n).flatMap f).length = n * k := by
  simp [List.length_flatMap, h]

theorem Vdp.background_length (d : Vdp) (y : Nat) : (d.background y).length = activeColumns := by
  have pixels (n : Nat) (pat : Byte) (fg bg : Colour) : (patternPixels pat fg bg n).length = n := by
    simp [patternPixels]
  have graphics1 : (d.graphics1Line y).length = activeColumns := length_flatMap_range (fun _ => pixels ..) 32
  unfold Vdp.background
  split
  · exact graphics1
  · exact length_flatMap_range (fun _ => pixels ..) 32
  · simp [Vdp.textLine, length_flatMap_range (fun _ => pixels ..), activeColumns]
  · exact length_flatMap_range (k := 8) (fun _ => by simp) 32
  · exact graphics1

theorem SpriteScan.plot_length (col : Colour) (sx : Nat) (sc : SpriteScan) :
    (sc.plot col sx).line.length = sc.line.length := by
  simp only [SpriteScan.plot]
  split <;> split <;> simp

theorem Vdp.drawPixel_length (d : Vdp) (s prow i : Nat) (sc : SpriteScan) :
    (d.drawPixel s prow i sc).line.length = sc.line.length := by
  simp only [Vdp.drawPixel]
  split
  · rfl
  · split
    · exact SpriteScan.plot_length ..
    · rfl

theorem Vdp.drawSprite_length (d : Vdp) (s prow : Nat) (sc : SpriteScan) :
    (d.drawSprite s prow sc).line.length = sc.line.length := by
  unfold Vdp.drawSprite
  generalize List.range (d.regs.spriteSize * (1 + d.regs.mag)) = columns
  induction columns generalizing sc with
  | nil => rfl
  | cons i is ih => exact (ih _).trans (d.drawPixel_length s prow i sc)

theorem Vdp.scanSprites_length (d : Vdp) (y n s : Nat) (sc : SpriteScan) :
    (d.scanSprites y n s sc).line.length = sc.line.length := by
  induction n generalizing s sc with
  | zero => rfl
  | succ n ih =>
    unfold Vdp.scanSprites
    simp only
    split
    · rfl
    · split
      · exact ih ..
      · split
        · rfl
        · exact (ih ..).trans (d.drawSprite_length ..)

theorem Vdp.sprites_length (d : Vdp) (y : Nat) (line : LineBuf) :
    (d.sprites y line).line.length = line.length := d.scanSprites_length ..

/-! ### One scanline -/

/-- The card but for the picture, the status and the count of free lines is as it was, and the picture keeps
its form. -/
def Vdp.Redraws (d e : Vdp) : Prop :=
  e = { d with status := e.status, linesDrawn := e.linesDrawn, frame := e.frame } ∧
    (d.frame.wf = true → e.frame.wf = true)

theorem Vdp.Redraws.refl (d : Vdp) : d.Redraws d := ⟨rfl, id⟩

theorem Vdp.Redraws.trans {d e f : Vdp} (h : d.Redraws e) (k : e.Redraws f) : d.Redraws f := by
  refine ⟨?_, k.2 ∘ h.2⟩
  rw [k.1, h.1]

theorem Vdp.Redraws.vram {d e : Vdp} (h : d.Redraws e) : e.vram = d.vram := by rw [h.1]

theorem Vdp.Redraws.pace {d e : Vdp} (h : d.Redraws e) : e.pace = d.pace := by rw [h.1]

theorem Vdp.Redraws.scanline {d e : Vdp} (h : d.Redraws e) : e.scanline = d.scanline := by rw [h.1]

theorem Vdp.startFrame_redraws (p : Params) (d : Vdp) : d.Redraws (d.startFrame p) :=
  ⟨rfl, fun _ => Frame.wf_fill _⟩

theorem Vdp.renderLine_redraws (p : Params) {y : Nat} (hy : y < activeRows) (d : Vdp) :
    d.Redraws (d.renderLine p y) := by
  have put {line : List Rgba} (hl : line.length = activeColumns) (h : d.frame.wf = true) :
      (d.frame.setRow y line).wf = true := Frame.wf_setRow h hy hl
  unfold Vdp.renderLine
  split
  · split
    · exact ⟨rfl, put (by simp [d.background_length])⟩
    · exact ⟨rfl, put (by simp [freeLine])⟩
    · exact ⟨rfl, put (by simp [d.sprites_length, d.background_length])⟩
  · exact ⟨rfl, put (by simp)⟩

theorem Vdp.processScanline_redraws (p : Params) (n : Nat) (d : Vdp) :
    d.Redraws (d.processScanline p n).2 := by
  have start : d.Redraws (if n = 0 then d.startFrame p else d) := by
    split
    · exact d.startFrame_redraws p
    · exact .refl d
  have line (e : Vdp) : e.Redraws (if n < activeRows then e.renderLine p n else e) := by
    split
    · next active => exact e.renderLine_redraws p active
    · exact .refl e
  have flag (e : Vdp) :
      e.Redraws (if n = 191 ∧ e.regs.ie = true then (true, { e with status := e.status ||| 0x80#8 })
        else (false, e)).2 := by
    split
    · exact ⟨rfl, id⟩
    · exact .refl e
  exact (start.trans (line _)).trans (flag _)

/-- A turn of the pacing loop takes a line's cycles off the pace, renders, and goes to the next scanline. -/
theorem Vdp.nextLine_redraws (p : Params) (perLine : Rat) (d : Vdp) :
    ({ d with
      pace := d.pace - perLine
      scanline := if d.scanline + 1 = p.totalScanlines then 0 else d.scanline + 1 } : Vdp).Redraws
      (d.nextLine p perLine).2.2 := by
  have rendered := Vdp.processScanline_redraws p d.scanline { d with pace := d.pace - perLine }
  simp only [Vdp.nextLine]
  split
  · exact ⟨by rw [rendered.1], rendered.2⟩
  · exact ⟨by rw [rendered.1], rendered.2⟩

end Sys2Proof.Machine
end

section
/-! The status, the stores and the configuration in every step (R25, R28, R30 to R34). -/

namespace Sys2Proof.Machine

/-! ### What one bus cycle can do to the devices and to RAM -/

/-- A read leaves the video card alone or reads one of its ports. -/
theorem memRead_vdp (a : Word) (s : State) :
    (memRead a s).2.vdp = s.vdp ∨ ∃ odd, (memRead a s).2.vdp = (s.vdp.readPort odd).2 := by
  unfold memRead
  split
  case h_7 odd _ => exact .inr ⟨odd, rfl⟩
  all_goals exact .inl rfl

/-- A write leaves the video card alone or writes one of its ports. -/
theorem memWrite_vdp (a : Word) (x : Byte) (s : State) :
    (memWrite a x s).vdp = s.vdp ∨ ∃ odd, (memWrite a x s).vdp = s.vdp.writePort odd x := by
  unfold memWrite
  split
  case h_7 odd _ => exact .inr ⟨odd, rfl⟩
  all_goals exact .inl rfl

/-- A write leaves the sound card alone or writes one of its registers. -/
theorem memWrite_snd (a : Word) (x : Byte) (s : State) :
    (memWrite a x s).snd = s.snd ∨ ∃ n, (memWrite a x s).snd = s.snd.writeReg n x := by
  unfold memWrite
  split
  case h_6 n _ => exact .inr ⟨n, rfl⟩
  all_goals exact .inl rfl

/-- A write leaves RAM alone or writes one of its 32768 cells. -/
theorem memWrite_ram_cases (a : Word) (x : Byte) (s : State) :
    (memWrite a x s).ram = s.ram ∨ ∃ c : BitVec 15, (memWrite a x s).ram = Memory.write s.ram c.toNat x := by
  unfold memWrite
  split
  case h_1 c _ => exact .inr ⟨c, rfl⟩
  all_goals exact .inl rfl

/-! ### The status -/

theorem statusOk_congr {s t : State} (h : t.p = s.p) : StatusOk s ↔ StatusOk t := by
  rw [statusOk_iff, statusOk_iff, h]

theorem statusOk_keptByBus : KeptByBus StatusOk where
  cpu _ status := status
  read a s := (statusOk_congr (memRead_leaves a s).2.1).1
  write a x s := (statusOk_congr (memWrite_leaves a x s).2.1).1

theorem statusOk_keptByStep : KeptByStep StatusOk where
  bus := statusOk_keptByBus
  posted := id
  devices := {
    pulse p _ := statusOk_keptByBus.pulse p
    cards _ _ := id
    via := id
    sound := id
    video _ _ := id
    scheduler _ _ _ := id }
  reset _ _ := id

/-- Settles O41: no bus cycle, no effect and no device touches `B` or `U`, and a reset sets them so. -/
theorem stepKeepsStatus : Obligations.StepKeepsStatus := fun _ _ => statusOk_keptByStep.step

/-! ### The stores -/

/-- A port write keeps the form of VRAM: the address pointer has 14 bits (R37). -/
theorem Vdp.writePort_vram_wf {d : Vdp} (h : Memory.wfBelow 16384 d.vram = true) (odd : Bool) (x : Byte) :
    Memory.wfBelow 16384 (d.writePort odd x).vram = true := by
  cases odd with
  | false => exact Memory.wfBelow_write h d.addr.isLt x
  | true =>
    have unchanged : (d.writePort true x).vram = d.vram := by
      simp only [Vdp.writePort, Vdp.writeControl, if_true]
      repeat' split
      all_goals rfl
    rwa [unchanged]

/-- No turn of the pacing loop writes VRAM. -/
theorem Vdp.nextLine_vram (p : Params) (perLine : Rat) (d : Vdp) :
    (d.nextLine p perLine).2.2.vram = d.vram := (d.nextLine_redraws p perLine).vram

theorem Vdp.lineTurns_vram (p : Params) (perLine : Rat) (n : Nat) (d : Vdp) :
    (d.lineTurns p perLine n).vram = d.vram := by
  induction n generalizing d with
  | zero => rfl
  | succ n ih =>
    unfold Vdp.lineTurns
    split
    · exact (ih _).trans (Vdp.nextLine_vram p perLine d)
    · rfl

theorem storesOk_keptByBus : KeptByBus StoresOk where
  cpu {s t} same _ ok := by
    obtain ⟨ram, rom, cart, -, vdp, -⟩ := same
    rwa [StoresOk, ram, rom, cart, vdp]
  read a s ok := by
    obtain ⟨-, -, -, -, ram, rom, cart, vram, -⟩ := memRead_leaves a s
    rwa [StoresOk, ram, rom, cart, vram]
  write a x s ok := by
    obtain ⟨-, -, -, -, rom, cart, -⟩ := memWrite_leaves a x s
    obtain ⟨ramOk, romOk, cartOk, vramOk⟩ := ok
    refine ⟨?ram, by rwa [rom], by rwa [cart], ?vram⟩
    case ram =>
      obtain same | ⟨c, written⟩ := memWrite_ram_cases a x s
      · rwa [same]
      · rw [written]
        exact Memory.wfBelow_write ramOk c.isLt x
    case vram =>
      obtain same | ⟨odd, written⟩ := memWrite_vdp a x s
      · rwa [same]
      · rw [written]
        exact Vdp.writePort_vram_wf vramOk odd x

theorem storesOk_keptByStep : KeptByStep StoresOk where
  bus := storesOk_keptByBus
  posted := id
  devices := {
    pulse p _ := storesOk_keptByBus.pulse p
    cards _ _ := id
    via := id
    sound := id
    video _ s ok := by
      have unwritten : (s.vdp.tick s.params).vram = s.vdp.vram := Vdp.lineTurns_vram ..
      obtain ⟨ramOk, romOk, cartOk, vramOk⟩ := ok
      exact ⟨ramOk, romOk, cartOk, by rwa [State.putVideo, unwritten]⟩
    scheduler _ _ _ := id }
  reset k s ok := by
    obtain ⟨ramOk, romOk, cartOk, vramOk⟩ := ok
    cases k with
    | cold => exact ⟨rfl, romOk, cartOk, rfl⟩
    | warm => exact ⟨ramOk, romOk, cartOk, vramOk⟩

/-- Settles O42: a write to RAM or VRAM stays inside the store and keeps its form; nothing writes ROM or
Cart. -/
theorem stepKeepsStores : Obligations.StepKeepsStores := fun _ _ => storesOk_keptByStep.step

/-! ### The configuration -/

/-- ROM, Cart and the parameters have these values. -/
def HasConfiguration (rom cart : Memory) (params : Params) (s : State) : Prop :=
  s.rom = rom ∧ s.cart = cart ∧ s.params = params

section
variable (rom cart : Memory) (params : Params)

theorem hasConfiguration_keptByBus : KeptByBus (HasConfiguration rom cart params) where
  cpu {s t} same _ has := by
    obtain ⟨-, sameRom, sameCart, -, -, -, -, -, sameParams, -⟩ := same
    rwa [HasConfiguration, sameRom, sameCart, sameParams]
  read a s has := by
    obtain ⟨-, -, -, -, -, sameRom, sameCart, -, -, -, -, -, sameParams, -⟩ := memRead_leaves a s
    rwa [HasConfiguration, sameRom, sameCart, sameParams]
  write a x s has := by
    obtain ⟨-, -, -, -, sameRom, sameCart, -, -, -, -, sameParams, -⟩ := memWrite_leaves a x s
    rwa [HasConfiguration, sameRom, sameCart, sameParams]

theorem hasConfiguration_keptByStep : KeptByStep (HasConfiguration rom cart params) where
  bus := hasConfiguration_keptByBus rom cart params
  posted := id
  devices := {
    pulse p _ := (hasConfiguration_keptByBus rom cart params).pulse p
    cards _ _ := id
    via := id
    sound := id
    video _ _ := id
    scheduler _ _ _ := id }
  reset _ _ := id

end

/-! ### The scheduler -/

theorem schedAcc_keptByBus (n : Nat) : KeptByBus fun s => s.schedAcc = n where
  cpu same _ := by
    obtain ⟨-, -, -, acc, -⟩ := same
    exact acc.trans
  read a s := by
    obtain ⟨-, -, -, -, -, -, -, -, -, -, -, acc, -⟩ := memRead_leaves a s
    exact acc.trans
  write a x s := by
    obtain ⟨-, -, -, -, -, -, -, -, -, acc, -⟩ := memWrite_leaves a x s
    exact acc.trans

/-- A trap entry accesses no register of a card, so no pulse posts another (R611). -/
theorem deliver_posted (p : Pulse) (s : State) : (deliver s p).posted = s.posted := by
  have enter {v : Word} (hv : 0xFFFA#16 ≤ v ∧ 0xFFFA#16 ≤ v + 1) :
      ((trapEnter v false s).addCycles 7).posted = s.posted := by
    rw [trapEnter_eq hv.1 hv.2]
    rfl
  cases p with
  | nmi => exact enter nmiVector_le
  | irq =>
    unfold deliver irqPulse
    simp only
    split
    · rfl
    · exact enter irqVector_le

theorem nothingPosted_keptByDevices : KeptByDevices fun s => s.posted = [] where
  pulse p s := (deliver_posted p s).trans
  cards _ _ := id
  via := id
  sound := id
  video _ _ := id
  scheduler _ _ _ := id

/-- A CPU tick leaves no pulse waiting (R112). -/
theorem cpuTick_posted {s t : State} (h : cpuTick s = .next t) (waiting : s.posted = []) : t.posted = [] := by
  obtain ⟨-, passed⟩ | ⟨-, u, -, -, ran⟩ := cpuTick_cases s
  · cases passed.symm.trans h
    exact waiting
  · cases ran.symm.trans h
    rfl

@[simp] theorem viaTickAt_schedAcc (coarse : Bool) (s : State) :
    (viaTickAt coarse s).schedAcc = s.schedAcc := by
  unfold viaTickAt
  split <;> simp

@[simp] theorem viaTickAt_params (coarse : Bool) (s : State) : (viaTickAt coarse s).params = s.params := by
  unfold viaTickAt
  split <;> simp

/-- The count of the scheduler (R110). -/
theorem deviceTicks_schedAcc (s : State) :
    (deviceTicks s).schedAcc =
      if s.params.tickInterval ≤ s.schedAcc + 1 then s.schedAcc + 1 - s.params.tickInterval
      else s.schedAcc + 1 := by
  simp only [deviceTicks, viaTickAt_params, viaTickAt_schedAcc, cardTick_params, cardTick_schedAcc]
  split <;> simp [coarseTicks]

theorem schedOk_reset {s : State} (k : ResetKind) (ok : SchedOk s) : SchedOk (machineReset k s) := by
  rw [machineReset, cpuReset_eq]
  exact ⟨Nat.zero_lt_of_lt ok.1, rfl⟩

theorem schedOk_machineTick {s u : State} (h : cpuTick s = .next u) (paramsAfterCpu : u.params = s.params)
    (paramsAtEnd : (deviceTicks u).params = s.params) (ok : SchedOk s) : SchedOk (deviceTicks u) := by
  obtain ⟨below, waiting⟩ := ok
  refine ⟨?_, nothingPosted_keptByDevices.deviceTicks (cpuTick_posted h waiting)⟩
  have sameAcc : u.schedAcc = s.schedAcc := (schedAcc_keptByBus _).cpuTick id rfl h
  rw [paramsAtEnd, deviceTicks_schedAcc, paramsAfterCpu, sameAcc]
  split <;> omega

theorem schedOk_step {s t : State} (h : step s = .next t) (ok : SchedOk s) : SchedOk t := by
  have configured := hasConfiguration_keptByStep s.rom s.cart s.params
  have hs : HasConfiguration s.rom s.cart s.params s := ⟨rfl, rfl, rfl⟩
  obtain ⟨k, -, rfl⟩ | ⟨-, u, ticked, rfl⟩ := step_cases h
  · exact schedOk_reset k ok
  · have hu := configured.bus.cpuTick configured.posted hs ticked
    obtain ⟨-, -, paramsAtEnd⟩ := configured.devices.deviceTicks hu
    obtain ⟨-, -, paramsAfterCpu⟩ := hu
    exact schedOk_machineTick ticked paramsAfterCpu paramsAtEnd ok

/-- Settles O43: nothing writes ROM, Cart or the parameters; the scheduler starts again at 0 when its count
reaches the interval, and every instruction ends with its pulses delivered. -/
theorem stepKeepsConfiguration : Obligations.StepKeepsConfiguration := by
  intro s t h
  obtain ⟨rom, cart, params⟩ :=
    (hasConfiguration_keptByStep s.rom s.cart s.params).step ⟨rfl, rfl, rfl⟩ h
  exact ⟨rom, cart, params, schedOk_step h⟩

end Sys2Proof.Machine
end

section
/-! The video card in every step (R41, R42, R370): the pacing loop runs until the pace holds no further line,
so its turns leave the pace below the cycles of one line. -/

namespace Sys2Proof.Machine

/-- Enough turns of the pacing loop bring the pace below the cycles of one line; each goes to a scanline of
the frame and keeps the picture's form. -/
theorem Vdp.lineTurns_ok (p : Params) (n : Nat) {d : Vdp} (scanline : d.scanline < p.totalScanlines)
    (nonneg : 0 ≤ d.pace) (enough : d.pace < (n + 1) * cyclesPerLine p) (frame : d.frame.wf = true) :
    Vdp.Ok p (d.lineTurns p (cyclesPerLine p) n) := by
  induction n generalizing d with
  | zero =>
    have below : d.pace < cyclesPerLine p := by simpa using enough
    exact ⟨scanline, nonneg, below, frame⟩
  | succ n ih =>
    unfold Vdp.lineTurns
    split
    · next due =>
      have turned := d.nextLine_redraws p (cyclesPerLine p)
      refine ih ?scanline ?nonneg ?enough (turned.2 frame)
      case scanline =>
        rw [turned.scanline]
        simp only
        split <;> omega
      case nonneg =>
        rw [turned.pace]
        exact sub_nonneg.2 due
      case enough =>
        rw [turned.pace]
        push_cast at enough
        linarith
    · next idle => exact ⟨scanline, nonneg, not_le.1 idle, frame⟩

/-- The tick of R370 runs the loop often enough. -/
theorem Vdp.tick_ok {p : Params} {d : Vdp} (ok : d.Ok p) : (d.tick p).Ok p := by
  obtain ⟨scanline, nonneg, below, frame⟩ := ok
  have line : 0 < cyclesPerLine p := nonneg.trans_lt below
  let pace := d.pace + (p.tickInterval : Rat)
  have filled : 0 ≤ pace := add_nonneg nonneg (Nat.cast_nonneg _)
  have turns : pace / cyclesPerLine p < (pace / cyclesPerLine p).floor.toNat + 1 := by
    have rounded : ((pace / cyclesPerLine p).floor : Rat) ≤ (pace / cyclesPerLine p).floor.toNat := by
      exact_mod_cast Int.self_le_toNat _
    linarith [Rat.lt_floor (x := pace / cyclesPerLine p)]
  exact Vdp.lineTurns_ok p _ (d := { d with pace := pace }) scanline filled ((div_lt_iff₀ line).1 turns) frame

/-- The ranges hold after a cold reset as soon as they are not empty. -/
theorem Vdp.ok_cold {p : Params} (lines : 0 < p.totalScanlines) (cycles : 0 < cyclesPerLine p) :
    Vdp.Ok p Vdp.cold := ⟨lines, le_rfl, cycles, Frame.wf_fill black⟩

theorem Vdp.reset_ok {p : Params} {d : Vdp} (k : ResetKind) (ok : d.Ok p) : (d.reset k).Ok p := by
  obtain ⟨scanline, nonneg, below, frame⟩ := ok
  have first : 0 < p.totalScanlines := Nat.zero_lt_of_lt scanline
  have line : 0 < cyclesPerLine p := nonneg.trans_lt below
  cases k with
  | cold => exact Vdp.ok_cold first line
  | warm => exact ⟨first, le_rfl, line, frame⟩

/-- The video card is in its ranges and its picture in its form. -/
def VideoOk (s : State) : Prop := Vdp.Ok s.params s.vdp

theorem videoOk_keptByBus : KeptByBus VideoOk where
  cpu {s t} same _ ok := by
    obtain ⟨-, -, -, -, vdp, -, -, -, params, -⟩ := same
    rwa [VideoOk, vdp, params]
  read a s ok := by
    obtain ⟨-, -, -, -, -, -, -, -, -, -, -, -, params, -⟩ := memRead_leaves a s
    obtain vdp | ⟨odd, vdp⟩ := memRead_vdp a s
    · rwa [VideoOk, vdp, params]
    · obtain ⟨-, -, frame, scanline, pace, -⟩ := s.vdp.readPort_frame odd
      rwa [VideoOk, Vdp.Ok, vdp, params, frame, scanline, pace]
  write a x s ok := by
    obtain ⟨-, -, -, -, -, -, -, -, -, -, params, -⟩ := memWrite_leaves a x s
    obtain vdp | ⟨odd, vdp⟩ := memWrite_vdp a x s
    · rwa [VideoOk, vdp, params]
    · obtain ⟨frame, -, scanline, pace, -⟩ := s.vdp.writePort_frame odd x
      rwa [VideoOk, Vdp.Ok, vdp, params, frame, scanline, pace]

theorem videoOk_keptByStep : KeptByStep VideoOk where
  bus := videoOk_keptByBus
  posted := id
  devices := {
    pulse p _ := videoOk_keptByBus.pulse p
    cards _ _ := id
    via := id
    sound := id
    video _ _ := Vdp.tick_ok
    scheduler _ _ _ := id }
  reset k _ := Vdp.reset_ok k

/-- Settles O44: no port touches scanline, pace or picture; a tick ends with less than one line in the pace. -/
theorem stepKeepsVideo : Obligations.StepKeepsVideo := fun _ _ => videoOk_keptByStep.step

end Sys2Proof.Machine
end

section
/-! The sound card in every step (R47, R51, R443, R482, R490). -/

namespace Sys2Proof.Machine

/-! ### The noise registers -/

/-- The feedback shift of R443 takes no register to 0: if the 22 bits it keeps are 0, the fed-back bit is
the one it drops. -/
theorem lfsrClock_ne_zero {l : BitVec 23} (h : l ≠ 0) : lfsrClock l ≠ 0 := by
  intro zero
  have bit (i : Nat) :
      (l.extractLsb' 0 22 ++ BitVec.ofBool (l.getLsbD 17 ^^ l.getLsbD 22) : BitVec (22 + 1)).getLsbD i = false :=
    (congrArg (BitVec.getLsbD · i) zero).trans BitVec.getLsbD_zero
  simp only [BitVec.getLsbD_append] at bit
  have kept (i : Nat) (hi : i < 22) : l.getLsbD i = false := by simpa [hi] using bit (i + 1)
  have fedBack : l.getLsbD 17 = l.getLsbD 22 := by simpa using bit 0
  have dropped : l.getLsbD 22 = false := fedBack.symm.trans (kept 17 (by decide))
  refine h (BitVec.eq_of_getLsbD_eq fun i hi => ?_)
  obtain low | rfl : i < 22 ∨ i = 22 := by omega
  · exact (kept i low).trans BitVec.getLsbD_zero.symm
  · exact dropped.trans BitVec.getLsbD_zero.symm

theorem Voice.oscAdvance_lfsr {v : Voice} (h : v.lfsr ≠ 0) : v.oscAdvance.lfsr ≠ 0 := by
  unfold Voice.oscAdvance
  split
  · exact (by decide : lfsrSeed ≠ 0)
  · simp only
    split
    · exact lfsrClock_ne_zero h
    · exact h

theorem Voice.oscSync_lfsr (v : Voice) (rose : Bool) : (v.oscSync rose).lfsr = v.lfsr := by
  unfold Voice.oscSync
  split <;> rfl

theorem Voice.countDown_lfsr (v : Voice) (period : Nat) : (v.countDown period).lfsr = v.lfsr := by
  unfold Voice.countDown
  split
  · rfl
  · split <;> rfl

/-- An envelope cycle changes no oscillator. -/
theorem Voice.envCycle_lfsr (p : Params) (v : Voice) : (v.envCycle p).lfsr = v.lfsr := by
  have attack (n : Nat) : (v.attackCycle n).lfsr = v.lfsr := by
    simp only [Voice.attackCycle, apply_ite Voice.lfsr, ite_self]
  have decay (n : Nat) (level : Byte) : (v.decayCycle n level).lfsr = v.lfsr := by
    unfold Voice.decayCycle
    simp only
    split
    · rfl
    · split <;> exact v.countDown_lfsr n
  have release (n : Nat) : (v.releaseCycle n).lfsr = v.lfsr := by
    unfold Voice.releaseCycle
    split
    · rfl
    · exact v.countDown_lfsr n
  unfold Voice.envCycle
  simp only
  split
  · exact attack _
  · exact decay _ _
  · rfl
  · exact release _

/-! ### The samples and the pacer -/

theorem clampUnit_mem (x : Rat) : -1 ≤ clampUnit x ∧ clampUnit x ≤ 1 := by
  unfold clampUnit
  split
  · norm_num
  · split
    · norm_num
    · next low high => exact ⟨(not_le.1 low).le, (not_le.1 high).le⟩

theorem Sound.sample_ok {p : Params} {c : Sound} (ok : c.Ok p) : (c.sample p).Ok p := by
  obtain ⟨lfsr, below, samples⟩ := ok
  refine ⟨lfsr, below, fun x hx => ?_⟩
  obtain old | new := List.mem_append.1 hx
  · exact samples x old
  · cases List.mem_singleton.1 new
    exact clampUnit_mem _

/-- The pacer subtracts a SID clock as soon as it holds one, so a sample rate within that clock leaves it
below (R490). -/
theorem Sound.samplePace_ok {p : Params} {c : Sound} (rate : p.sampleRateHz ≤ p.sidClockHz) (ok : c.Ok p) :
    (c.samplePace p).Ok p := by
  obtain ⟨lfsr, below, samples⟩ := ok
  unfold Sound.samplePace
  simp only
  split
  · exact Sound.sample_ok ⟨lfsr, by simp only; omega, samples⟩
  · next short => exact ⟨lfsr, not_le.1 short, samples⟩

theorem Sound.sidCycle_ok {p : Params} {c : Sound} (rate : p.sampleRateHz ≤ p.sidClockHz) (ok : c.Ok p) :
    (c.sidCycle p).Ok p := by
  obtain ⟨⟨lfsr0, lfsr1, lfsr2⟩, below, samples⟩ := ok
  refine Sound.samplePace_ok rate ⟨⟨?_, ?_, ?_⟩, below, samples⟩
  all_goals
    simp only [Sound.envCycle, Sound.oscSync, Sound.oscAdvance, Voice.envCycle_lfsr, Voice.oscSync_lfsr]
    exact Voice.oscAdvance_lfsr ‹_›

theorem Sound.sidCycles_ok {p : Params} (rate : p.sampleRateHz ≤ p.sidClockHz) (n : Nat) {c : Sound}
    (ok : c.Ok p) : (c.sidCycles p n).Ok p := by
  induction n generalizing c with
  | zero => exact ok
  | succ n ih => exact ih (Sound.sidCycle_ok rate ok)

/-! ### The registers and the reset -/

theorem Sound.writeReg_ok {p : Params} {c : Sound} (n : BitVec 5) (x : Byte) (ok : c.Ok p) :
    (c.writeReg n x).Ok p := by
  obtain ⟨out, acc, -, -, -, lfsr0, lfsr1, lfsr2⟩ := c.writeReg_frame n x
  rwa [Sound.Ok, out, acc, lfsr0, lfsr1, lfsr2]

theorem Voice.cold_lfsr : Voice.cold.lfsr ≠ 0 := by decide

/-- The ranges hold after a cold reset as soon as they are not empty. -/
theorem Sound.ok_cold {p : Params} (clock : 0 < p.sidClockHz) : Sound.Ok p Sound.cold :=
  ⟨⟨Voice.cold_lfsr, Voice.cold_lfsr, Voice.cold_lfsr⟩, clock, fun _ none => nomatch none⟩

theorem Sound.reset_ok {p : Params} {c : Sound} (k : ResetKind) (ok : c.Ok p) : (c.reset k).Ok p := by
  obtain ⟨-, below, samples⟩ := ok
  have clock : 0 < p.sidClockHz := Nat.zero_lt_of_lt below
  cases k with
  | cold => exact Sound.ok_cold clock
  | warm => exact ⟨(Sound.ok_cold clock).1, clock, samples⟩

/-! ### The step -/

/-- The sound card is in its ranges, and the sample rate is within the SID clock. -/
def SoundOk (s : State) : Prop := s.params.sampleRateHz ≤ s.params.sidClockHz ∧ Sound.Ok s.params s.snd

theorem soundOk_keptByBus : KeptByBus SoundOk where
  cpu {s t} same _ ok := by
    obtain ⟨-, -, -, -, -, snd, -, -, params, -⟩ := same
    rwa [SoundOk, snd, params]
  read a s ok := by
    obtain ⟨-, -, -, -, -, -, -, -, -, -, snd, -, params, -⟩ := memRead_leaves a s
    rwa [SoundOk, snd, params]
  write a x s ok := by
    obtain ⟨-, -, -, -, -, -, -, -, -, -, params, -⟩ := memWrite_leaves a x s
    obtain snd | ⟨n, snd⟩ := memWrite_snd a x s
    · rwa [SoundOk, snd, params]
    · rw [SoundOk, snd, params]
      exact ⟨ok.1, Sound.writeReg_ok n x ok.2⟩

theorem soundOk_keptByStep : KeptByStep SoundOk where
  bus := soundOk_keptByBus
  posted := id
  devices := {
    pulse p _ := soundOk_keptByBus.pulse p
    cards _ _ := id
    via := id
    sound ok := ⟨ok.1, Sound.sidCycles_ok ok.1 _ ok.2⟩
    video _ _ := id
    scheduler _ _ _ := id }
  reset k _ ok := ⟨ok.1, Sound.reset_ok k ok.2⟩

theorem sampleRate_le_of_paramsOk {s : State} (h : ParamsOk s) :
    s.params.sampleRateHz ≤ s.params.sidClockHz := by
  simp only [ParamsOk, Params.wf, Params.wfSampleRate, Bool.and_eq_true, decide_eq_true_eq] at h
  tauto

/-- Settles O45: the noise shift never reaches 0, the pacer wraps at the SID clock, every sample is clamped. -/
theorem stepKeepsSound : Obligations.StepKeepsSound := fun _ _ params ok h =>
  (soundOk_keptByStep.step ⟨sampleRate_le_of_paramsOk params, ok⟩ h).2

end Sys2Proof.Machine
end

section
/-! The cycle counter and `Step()` (R27, R111, R114): only the count of a CPU tick changes `cycles_total`. -/

namespace Sys2Proof.Machine

/-! ### No effect counts a cycle -/

/-- An effect leaves the cycle counter alone. -/
def KeepsTotal (f : State → State) : Prop := ∀ s, (f s).cyclesTotal = s.cyclesTotal

@[simp] theorem memRead_cyclesTotal (a : Word) (s : State) : (memRead a s).2.cyclesTotal = s.cyclesTotal := by
  obtain ⟨-, -, -, total, -⟩ := memRead_leaves a s
  exact total

@[simp] theorem memWrite_cyclesTotal (a : Word) (x : Byte) (s : State) :
    (memWrite a x s).cyclesTotal = s.cyclesTotal := by
  obtain ⟨-, -, -, total, -⟩ := memWrite_leaves a x s
  exact total

@[simp] theorem fetch_cyclesTotal (s : State) : (fetch s).2.cyclesTotal = s.cyclesTotal :=
  memRead_cyclesTotal s.pc s

@[simp] theorem fetchInstr_cyclesTotal (s : State) : (fetchInstr s).2.cyclesTotal = s.cyclesTotal := by
  unfold fetchInstr
  simp only
  split <;> simp

@[simp] theorem push_cyclesTotal (x : Byte) (s : State) : (push x s).cyclesTotal = s.cyclesTotal := by
  rw [push_eq]

@[simp] theorem pull_cyclesTotal (s : State) : (pull s).2.cyclesTotal = s.cyclesTotal := by
  rw [pull_eq]

@[simp] theorem memRead16_cyclesTotal (a : Word) (s : State) :
    (memRead16 a s).2.cyclesTotal = s.cyclesTotal := by
  simp [memRead16]

@[simp] theorem readOperand_cyclesTotal (o : Operand) (s : State) :
    (readOperand o s).2.cyclesTotal = s.cyclesTotal := by
  cases o with
  | imm v => rfl
  | mem m => exact memRead_cyclesTotal _ s

@[simp] theorem trapEnter_cyclesTotal (v : Word) (b : Bool) (s : State) :
    (trapEnter v b s).cyclesTotal = s.cyclesTotal := by
  simp [trapEnter]

theorem addWithCarry_keepsTotal (m : Byte) : KeepsTotal (addWithCarry m) := fun s => by
  unfold addWithCarry
  split <;> rfl

theorem subWithBorrow_keepsTotal (m : Byte) : KeepsTotal (subWithBorrow m) := fun s => by
  unfold subWithBorrow
  split <;> rfl

theorem jumpVia_keepsTotal (ptr : State → Word) : KeepsTotal fun t => jumpVia (ptr t) t :=
  fun _ => memRead16_cyclesTotal ..

theorem push_keepsTotal (x : State → Byte) : KeepsTotal fun t => push (x t) t := fun _ => push_cyclesTotal ..

theorem pullWith_keepsTotal {f : Byte → State → State} (h : ∀ m, KeepsTotal (f m)) :
    KeepsTotal fun t => f (pull t).1 (pull t).2 := fun s => (h _ _).trans (pull_cyclesTotal s)

theorem plp_keepsTotal : KeepsTotal fun t => { (pull t).2 with p := plpStatus (pull t).1 t.p } :=
  fun s => pull_cyclesTotal s

theorem callTo_keepsTotal (a : Word) : KeepsTotal (callTo a) := fun s => by simp [callTo]

theorem returnFromCall_keepsTotal : KeepsTotal returnFromCall := fun s => by simp [returnFromCall]

theorem trapReturn_keepsTotal : KeepsTotal trapReturn := fun s => by rw [trapReturn_eq]

theorem breakTrap_keepsTotal : KeepsTotal breakTrap := fun _ => trapEnter_cyclesTotal ..

/-! ### No instruction counts a cycle -/

/-- A meaning leaves the cycle counter at `n`. -/
def EndsAt (n : Nat) (r : Result) : Prop := ∀ t, r = .next t → t.cyclesTotal = n

theorem endsAt_next {n : Nat} {t : State} (h : t.cyclesTotal = n) : EndsAt n (.next t) := by
  rintro _ ⟨⟩
  exact h

theorem runPlain_endsAt (op : Byte) {f : State → State} (h : KeepsTotal f) (s : State) :
    EndsAt s.cyclesTotal (runPlain op f s) := endsAt_next (h s)

theorem runRead_endsAt (op : Byte) (o : Operand) {f : Byte → State → State} (h : ∀ m, KeepsTotal (f m))
    (s : State) : EndsAt s.cyclesTotal (runRead op o f s) :=
  endsAt_next ((h _ _).trans (readOperand_cyclesTotal o s))

theorem runStore_endsAt (op : Byte) (m : MemMode) (x : Byte) (s : State) :
    EndsAt s.cyclesTotal (runStore op m x s) := endsAt_next (memWrite_cyclesTotal ..)

theorem runModify_endsAt (op : Byte) (m : MemMode) (f : Modify) (s : State) :
    EndsAt s.cyclesTotal (runModify op m f s) :=
  endsAt_next ((memWrite_cyclesTotal ..).trans (memRead_cyclesTotal ..))

theorem runBranch_endsAt (op d : Byte) (c : Bool) (s : State) :
    EndsAt s.cyclesTotal (runBranch op d c s) := endsAt_next rfl

/-- No instruction changes the cycle counter. The last case is the effects on registers alone. -/
theorem exec_endsAt (i : Instr) (s : State) : EndsAt s.cyclesTotal (exec i s) := by
  cases i with
  | brk => exact runPlain_endsAt _ breakTrap_keepsTotal s
  | jsr => exact runPlain_endsAt _ (callTo_keepsTotal _) s
  | rts => exact runPlain_endsAt _ returnFromCall_keepsTotal s
  | rti => exact runPlain_endsAt _ trapReturn_keepsTotal s
  | jmpInd a => exact runPlain_endsAt _ (jumpVia_keepsTotal fun _ => a) s
  | jmpAbsIndX a => exact runPlain_endsAt _ (jumpVia_keepsTotal fun t => a + zext16 t.x) s
  | jmpAbs a => exact runPlain_endsAt _ (f := fun t => { t with pc := a }) (fun _ => rfl) s
  | txs => exact runPlain_endsAt _ (f := fun t => { t with sp := t.x }) (fun _ => rfl) s
  | nop => exact runPlain_endsAt _ (f := fun t => t) (fun _ => rfl) s
  | pha => exact runPlain_endsAt _ (push_keepsTotal State.a) s
  | phx => exact runPlain_endsAt _ (push_keepsTotal State.x) s
  | phy => exact runPlain_endsAt _ (push_keepsTotal State.y) s
  | php => exact runPlain_endsAt _ (push_keepsTotal fun t => phpStatus t.p) s
  | pla => exact runPlain_endsAt _ (pullWith_keepsTotal (f := loadA) fun _ _ => rfl) s
  | plx => exact runPlain_endsAt _ (pullWith_keepsTotal (f := loadX) fun _ _ => rfl) s
  | ply => exact runPlain_endsAt _ (pullWith_keepsTotal (f := loadY) fun _ _ => rfl) s
  | plp => exact runPlain_endsAt _ plp_keepsTotal s
  | bcc | bcs | beq | bmi | bne | bpl | bra | bvc | bvs => exact runBranch_endsAt _ _ _ s
  | staAbs | staAbsX | staAbsY | staIndX | staIndY | staZp | staZpInd | staZpX | stxAbs | stxZp | stxZpY
  | styAbs | styZp | styZpX | stzAbs | stzAbsX | stzZp | stzZpX => exact runStore_endsAt _ _ _ s
  | aslAbs | aslAbsX | aslZp | aslZpX | decAbs | decAbsX | decZp | decZpX | incAbs | incAbsX | incZp
  | incZpX | lsrAbs | lsrAbsX | lsrZp | lsrZpX | rolAbs | rolAbsX | rolZp | rolZpX | rorAbs | rorAbsX
  | rorZp | rorZpX | trbAbs | trbZp | tsbAbs | tsbZp => exact runModify_endsAt _ _ _ s
  | adcAbs | adcAbsX | adcAbsY | adcImm | adcIndX | adcIndY | adcZp | adcZpInd | adcZpX =>
    exact runRead_endsAt _ _ addWithCarry_keepsTotal s
  | sbcAbs | sbcAbsX | sbcAbsY | sbcImm | sbcIndX | sbcIndY | sbcZp | sbcZpInd | sbcZpX =>
    exact runRead_endsAt _ _ subWithBorrow_keepsTotal s
  | andAbs | andAbsX | andAbsY | andImm | andIndX | andIndY | andZp | andZpInd | andZpX | bitAbs | bitAbsX
  | bitImm | bitZp | bitZpX | cmpAbs | cmpAbsX | cmpAbsY | cmpImm | cmpIndX | cmpIndY | cmpZp | cmpZpInd
  | cmpZpX | cpxAbs | cpxImm | cpxZp | cpyAbs | cpyImm | cpyZp | eorAbs | eorAbsX | eorAbsY | eorImm
  | eorIndX | eorIndY | eorZp | eorZpInd | eorZpX | ldaAbs | ldaAbsX | ldaAbsY | ldaImm | ldaIndX | ldaIndY
  | ldaZp | ldaZpInd | ldaZpX | ldxAbs | ldxAbsY | ldxImm | ldxZp | ldxZpY | ldyAbs | ldyAbsX | ldyImm
  | ldyZp | ldyZpX | oraAbs | oraAbsX | oraAbsY | oraImm | oraIndX | oraIndY | oraZp | oraZpInd | oraZpX =>
    refine runRead_endsAt _ _ (fun _ _ => ?_) s
    rfl
  | _ =>
    refine runPlain_endsAt _ (fun _ => ?_) s
    rfl

/-! ### The CPU tick counts one cycle -/

theorem deliver_cyclesTotal (p : Pulse) (s : State) : (deliver s p).cyclesTotal = s.cyclesTotal := by
  cases p with
  | nmi => exact trapEnter_cyclesTotal ..
  | irq =>
    unfold deliver irqPulse
    simp only
    split
    · rfl
    · exact trapEnter_cyclesTotal ..

theorem cyclesTotal_keptByDevices (n : Nat) : KeptByDevices fun s => s.cyclesTotal = n where
  pulse p s := (deliver_cyclesTotal p s).trans
  cards _ _ := id
  via := id
  sound := id
  video _ _ := id
  scheduler _ _ _ := id

theorem executeInstruction_endsAt (s : State) : EndsAt s.cyclesTotal (executeInstruction s) := by
  obtain ⟨t, ran, -⟩ := exec_path (fetchInstr s).1 (fetchInstr s).2
  have fetched := (exec_endsAt _ _ t ran).trans (fetchInstr_cyclesTotal s)
  rw [executeInstruction, ran]
  exact endsAt_next ((cyclesTotal_keptByDevices _).deliverAll t.posted fetched)

theorem cpuTick_cyclesTotal {s t : State} (h : cpuTick s = .next t) : t.cyclesTotal = s.cyclesTotal + 1 := by
  obtain ⟨-, passed⟩ | ⟨-, u, -, executed, ran⟩ := cpuTick_cases s
  · cases passed.symm.trans h
    rfl
  · cases ran.symm.trans h
    exact congrArg (· + 1) (executeInstruction_endsAt s _ executed)

/-! ### `Step()` -/

/-- While cycles remain, CPU ticks only count them (R111). -/
theorem cpuTicks_passing (n : Nat) {s : State} (h : n ≤ s.cyclesRemaining) :
    cpuTicks n s = .next { s with
      cyclesRemaining := s.cyclesRemaining - n, cyclesTotal := s.cyclesTotal + n } := by
  induction n generalizing s with
  | zero => rfl
  | succ n ih =>
    have passing : cpuTick s = .next (countCycle s) := if_neg (by omega)
    have later : n ≤ (countCycle s).cyclesRemaining := Nat.le_sub_of_add_le h
    simp only [cpuTicks, passing, ih later]
    simp [countCycle]
    omega

/-- All the cycles that remain pass. -/
theorem cpuTicks_remaining (s : State) :
    cpuTicks s.cyclesRemaining s =
      .next { s with cyclesRemaining := 0, cyclesTotal := s.cyclesTotal + s.cyclesRemaining } := by
  rw [cpuTicks_passing _ le_rfl, Nat.sub_self]

theorem cpuStep_counts (s : State) : ∃ n t, cpuStep s = .next (n, t) ∧
    t.cyclesTotal = s.cyclesTotal + n ∧ t.cyclesRemaining = 0 ∧ s.cyclesRemaining < n := by
  obtain ⟨t1, ran⟩ :=
    cpuTick_goesOn { s with cyclesRemaining := 0, cyclesTotal := s.cyclesTotal + s.cyclesRemaining }
  have total : t1.cyclesTotal = s.cyclesTotal + s.cyclesRemaining + 1 := cpuTick_cyclesTotal ran
  refine ⟨s.cyclesRemaining + 1 + t1.cyclesRemaining, _,
    by simp only [cpuStep, cpuTicks_remaining, ran]; rfl, ?_, rfl, by omega⟩
  simp only
  omega

/-- Settles O40: a machine tick has one CPU tick, and the pulses of the devices count no cycle. -/
theorem cycleCounts : Obligations.CycleCounts := by
  refine ⟨fun s t noReset h => ?_, cpuStep_counts⟩
  obtain ⟨k, requested, -⟩ | ⟨-, u, ticked, rfl⟩ := step_cases h
  · exact absurd (noReset.symm.trans requested) nofun
  · exact (cyclesTotal_keptByDevices _).deviceTicks (cpuTick_cyclesTotal ticked)

end Sys2Proof.Machine
end

section
/-! The state right after reset (R75, R672) meets the invariants that the steps keep. -/

namespace Sys2Proof.Machine

/-- The parameters R7 takes are as the spec asks. -/
theorem standard_wf : Params.standard.wf = true := by decide +kernel

/-- Settles O47: all invariants, each by its values at reset. -/
theorem resetMeetsInvariants : Obligations.ResetMeetsInvariants := by
  refine ⟨?status, ?stores, ?scheduler, standard_wf, ?video, ?sound, ?via⟩
  case status => exact (statusOk_iff _).2 (by decide)
  case stores => exact ⟨rfl, rfl, rfl, rfl⟩
  case scheduler => exact ⟨by decide, rfl⟩
  case video =>
    have cycles : 0 < cyclesPerLine Params.standard := by norm_num [cyclesPerLine, Params.standard]
    exact Vdp.ok_cold (by decide) cycles
  case sound => exact Sound.ok_cold (by decide)
  case via =>
    have lines : Via.cold.LinesOk := ⟨rfl, rfl, rfl, rfl⟩
    have timers : Via.cold.TimersOk := ⟨fun _ => rfl, fun _ => rfl, nofun⟩
    exact ⟨lines, timers, rfl, ⟨Nat.zero_le 8, .nil⟩, Nat.zero_le 8, .nil⟩

end Sys2Proof.Machine
end

section
/-! The address map and the two bus cycles (R82 to R91, R105): the ranges of addresses that the decoder's bit
tests stand for, and what a read and a write of each range do. -/

namespace Sys2Proof.Machine

/-! ### Address bits as ranges -/

theorem bit15_eq_false_iff (a : Word) : a.getLsbD 15 = false ↔ a.toNat < 0x8000 := by
  simp only [BitVec.getLsbD, Nat.testBit_eq_decide_div_mod_eq, decide_eq_false_iff_not]
  omega

/-- The upper three bits of an address are `100` in the I/O region (R83). -/
theorem ioBits_iff (a : Word) : a.extractLsb' 13 3 = 0b100#3 ↔ 0x8000 ≤ a.toNat ∧ a.toNat < 0xA000 := by
  rw [← BitVec.toNat_inj]
  simp only [BitVec.extractLsb'_toNat, Nat.shiftRight_eq_div_pow, BitVec.toNat_ofNat]
  omega

/-- The cell of an address above RAM. -/
theorem cell_toNat_high {a : Word} (h : 0x8000 ≤ a.toNat) :
    (a.extractLsb' 0 15).toNat = a.toNat - 0x8000 := by
  simp only [BitVec.extractLsb'_toNat, Nat.shiftRight_zero]
  omega

theorem slotBits_toNat (a : Word) : (a.extractLsb' 10 3).toNat = a.toNat / 1024 % 8 := by
  simp only [BitVec.extractLsb'_toNat, Nat.shiftRight_eq_div_pow]

/-! ### The three regions of the map (R82) -/

theorem decodeAddr_io {a : Word} (cart : Bool) (h : 0x8000 ≤ a.toNat ∧ a.toNat < 0xA000) :
    decodeAddr cart a = decodeSlot a := by
  have notRam : ¬ a.getLsbD 15 = false := by
    rw [bit15_eq_false_iff]
    omega
  rw [decodeAddr, if_neg notRam, if_pos ((ioBits_iff a).2 h)]

theorem decodeAddr_high {a : Word} (cart : Bool) (h : 0xA000 ≤ a.toNat) :
    decodeAddr cart a =
      if cart = true ∧ 0xC000 ≤ a.toNat then .cart (a.extractLsb' 0 15) else .rom (a.extractLsb' 0 15) := by
  have notRam : ¬ a.getLsbD 15 = false := by
    rw [bit15_eq_false_iff]
    omega
  have notIo : ¬ a.extractLsb' 13 3 = 0b100#3 := by
    rw [ioBits_iff]
    omega
  rw [decodeAddr, if_neg notRam, if_neg notIo]
  rfl

/-- Slot `k` takes the addresses from `0x8000 + 1024 k` on (R82, R83). -/
theorem slotBits_eq {a : Word} {k : Nat} (h : 0x8000 + 1024 * k ≤ a.toNat ∧ a.toNat < 0x8400 + 1024 * k)
    (hk : k < 8) : (a.extractLsb' 10 3).toNat = k := by
  rw [slotBits_toNat]
  omega

/-- An address of window `k` selects what the window's slot selects (R82). -/
theorem decodeAddr_window {a : Word} {k : Nat} {target : Target} (cart : Bool) (hk : k < 8)
    (slot : (a.extractLsb' 10 3).toNat = k → decodeSlot a = target)
    (h : 0x8000 + 1024 * k ≤ a.toNat ∧ a.toNat < 0x8400 + 1024 * k) : decodeAddr cart a = target :=
  (decodeAddr_io cart (by omega)).trans (slot (slotBits_eq h hk))

/-- Settles O4: the regions by the upper three bits of the address, the windows by the three bits below,
the offsets by the low bits. -/
theorem addressMap : Obligations.AddressMap := by
  intro cart a
  refine ⟨?ram, ?ram1, ?ram2, ?rtc, ?storage, ?serial, ?via, ?sound, ?video, ?rom, ?upper⟩
  case ram =>
    intro h
    have below := (bit15_eq_false_iff a).2 h
    exact ⟨_, decodeAddr_ram cart below, cell_toNat below⟩
  case ram1 => exact decodeAddr_window (k := 0) cart (by decide) fun n => by simp [decodeSlot, n]
  case ram2 => exact decodeAddr_window (k := 1) cart (by decide) fun n => by simp [decodeSlot, n]
  case rtc => exact decodeAddr_window (k := 2) cart (by decide) fun n => by simp [decodeSlot, n]
  case storage => exact decodeAddr_window (k := 3) cart (by decide) fun n => by simp [decodeSlot, n]
  case serial => exact decodeAddr_window (k := 4) cart (by decide) fun n => by simp [decodeSlot, n]
  case via =>
    intro h
    refine ⟨a.extractLsb' 0 4, ?_, by simp⟩
    exact decodeAddr_window (k := 5) cart (by decide) (fun n => by simp only [decodeSlot, n]) h
  case sound =>
    intro h
    refine ⟨a.extractLsb' 0 5, ?_, by simp⟩
    exact decodeAddr_window (k := 6) cart (by decide) (fun n => by simp only [decodeSlot, n]) h
  case video =>
    have lowBit : a.getLsbD 0 = decide (a.toNat % 2 = 1) := Nat.testBit_zero _
    exact decodeAddr_window (k := 7) cart (by decide) fun n => by simp only [decodeSlot, n, lowBit]
  case rom =>
    intro h
    refine ⟨_, ?_, cell_toNat_high (by omega)⟩
    rw [decodeAddr_high cart h.1, if_neg (by omega)]
  case upper =>
    intro h
    refine ⟨_, ?_, cell_toNat_high (by omega)⟩
    rw [decodeAddr_high cart (by omega)]
    simp [h]

/-! ### Reads and writes of the plain stores -/

/-- A read of RAM, ROM or Cart depends on nothing but the three stores and the map. -/
theorem byteAt_congr {b : Word} {s t : State} (hb : plainAt b s) (ram : t.ram = s.ram) (rom : t.rom = s.rom)
    (cart : t.cart = s.cart) (params : t.params = s.params) : byteAt b t = byteAt b s := by
  unfold plainAt isPlain at hb
  unfold byteAt memRead
  rw [params]
  split at hb
  case h_1 c target => simp only [target, ram]
  case h_2 c target => simp only [target, rom]
  case h_3 c target => simp only [target, cart]
  case h_4 => cases hb

/-- An address from `0xA000` on reads its cell of Cart, when there is one, or of ROM (R82, R84). -/
theorem byteAt_high {a : Word} (s : State) (h : 0xA000 ≤ a.toNat) :
    byteAt a s = Memory.read (if s.params.cartPresent = true ∧ 0xC000 ≤ a.toNat then s.cart else s.rom)
      (a.toNat - 0x8000) := by
  have cell : (a.extractLsb' 0 15).toNat = a.toNat - 0x8000 := cell_toNat_high (by omega)
  by_cases inCart : s.params.cartPresent = true ∧ 0xC000 ≤ a.toNat
  all_goals simp [byteAt, memRead, decodeAddr_high _ h, inCart, cell]

/-- A write to ROM or Cart does nothing (R91). -/
theorem memWrite_high {a : Word} (x : Byte) (s : State) (h : 0xA000 ≤ a.toNat) : memWrite a x s = s := by
  by_cases inCart : s.params.cartPresent = true ∧ 0xC000 ≤ a.toNat
  all_goals simp [memWrite, decodeAddr_high _ h, inCart]

/-- Settles O5: a plain read leaves the machine as it is, and the map gives its cell. -/
theorem busReadEffect : Obligations.BusReadEffect := by
  intro a s
  refine ⟨memRead_leaves a s, memRead_plain, ?ram, ?rom, ?cart⟩
  case ram =>
    intro h
    exact congrArg Prod.fst (memRead_ram s ((bit15_eq_false_iff a).2 h))
  case rom =>
    intro high noCart
    have rom : ¬ (s.params.cartPresent = true ∧ 0xC000 ≤ a.toNat) := by
      rintro ⟨present, upper⟩
      simp [present] at noCart
      omega
    rw [byteAt_high s high, if_neg rom]
  case cart =>
    intro upper present
    rw [byteAt_high s (by omega), if_pos ⟨present, upper⟩]

/-- Settles O6: the map sends different plain addresses to different cells, and every address from ROM's
first on to ROM or Cart, which a write leaves alone. -/
theorem busWriteEffect : Obligations.BusWriteEffect := by
  intro a x s
  refine ⟨memWrite_leaves a x s, memWrite_high x s, ?others, ?readBack⟩
  case others =>
    intro b plain other
    exact memWrite_byteAt x plain (differentCell_of_ne plain other)
  case readBack =>
    intro h canonical
    have inRam := (bit15_eq_false_iff a).2 h
    refine ⟨memWrite_byteAt_self x inRam canonical, ?_⟩
    rw [memWrite_ram x s inRam]
    exact Memory.wf_write canonical _ x

end Sys2Proof.Machine
end

section
/-! Stores and read-modify-write instructions (R170, R174 to R177, R231 to R238, R270 to R274): both are a few
bus cycles, of which only the write at the effective address changes a plain cell. -/

namespace Sys2Proof.Machine

/-! ### The store and the read-modify-write forms -/

/-- The flags other than `N`, `Z` and `C` stay. -/
def KeepsOtherFlags (f : Modify) : Prop :=
  ∀ m s, ∀ g : Flag, g ≠ .n → g ≠ .z → g ≠ .c → getFlag g (f m s).2 = getFlag g s.p

theorem incStep_keepsOtherFlags : KeepsOtherFlags incStep := fun _ _ _ n z _ => by
  simp [incStep, getFlag_nzBits, n, z]

theorem decStep_keepsOtherFlags : KeepsOtherFlags decStep := fun _ _ _ n z _ => by
  simp [decStep, getFlag_nzBits, n, z]

theorem trbStep_keepsOtherFlags : KeepsOtherFlags trbStep := fun _ _ _ _ z _ => by
  simp [trbStep, getFlag_testBits, z]

theorem tsbStep_keepsOtherFlags : KeepsOtherFlags tsbStep := fun _ _ _ _ z _ => by
  simp [tsbStep, getFlag_testBits, z]

/-- ASL, LSR, ROL and ROR, whatever the carry shifts in. -/
theorem shiftStep_keepsOtherFlags (shift : State → Byte → Shifted) :
    KeepsOtherFlags fun m s => shiftStep (shift s m) s := fun _ _ _ n z c => by
  simp [shiftStep, getFlag_shiftBits, n, z, c]

/-- A store form writes a register or 0 in every mode that its mnemonic has. -/
theorem exec_of_storeForm {m : MemMode} {i : Instr} (h : ∃ f ∈ storeForms, f m = some i) :
    ∃ (op : Byte) (x : State → Byte), ∀ s, exec i s = runStore op m (x s) s := by
  obtain ⟨f, mem, form⟩ := h
  simp only [storeForms, List.mem_cons, List.not_mem_nil, or_false] at mem
  obtain rfl | rfl | rfl | rfl := mem
  · cases m <;> cases form <;> exact ⟨_, State.a, fun _ => rfl⟩
  · cases m <;> cases form <;> exact ⟨_, State.x, fun _ => rfl⟩
  · cases m <;> cases form <;> exact ⟨_, State.y, fun _ => rfl⟩
  · cases m <;> cases form <;> exact ⟨_, fun _ => 0x00#8, fun _ => rfl⟩

/-- A read-modify-write form runs its mnemonic's step in every mode that the mnemonic has. -/
theorem exec_of_modifyForm {m : MemMode} {i : Instr} (h : ∃ f ∈ modifyForms, f m = some i) :
    ∃ op f, KeepsOtherFlags f ∧ ∀ s, exec i s = runModify op m f s := by
  obtain ⟨f, mem, form⟩ := h
  simp only [modifyForms, List.mem_cons, List.not_mem_nil, or_false] at mem
  obtain rfl | rfl | rfl | rfl | rfl | rfl | rfl | rfl := mem
  · cases m <;> cases form <;> exact ⟨_, incStep, incStep_keepsOtherFlags, fun _ => rfl⟩
  · cases m <;> cases form <;> exact ⟨_, decStep, decStep_keepsOtherFlags, fun _ => rfl⟩
  · cases m <;> cases form <;> exact ⟨_, trbStep, trbStep_keepsOtherFlags, fun _ => rfl⟩
  · cases m <;> cases form <;> exact ⟨_, tsbStep, tsbStep_keepsOtherFlags, fun _ => rfl⟩
  · cases m <;> cases form <;> exact ⟨_, aslStep, shiftStep_keepsOtherFlags fun _ => aslByte, fun _ => rfl⟩
  · cases m <;> cases form <;> exact ⟨_, lsrStep, shiftStep_keepsOtherFlags fun _ => lsrByte, fun _ => rfl⟩
  · cases m <;> cases form <;>
      exact ⟨_, rolStep, shiftStep_keepsOtherFlags fun s => rolByte (s.flag .c), fun _ => rfl⟩
  · cases m <;> cases form <;>
      exact ⟨_, rorStep, shiftStep_keepsOtherFlags fun s => rorByte (s.flag .c), fun _ => rfl⟩

/-! ### What they leave alone -/

/-- The registers, ROM, Cart, the parameters, the cycle counter, and every plain cell but the one at `a`
agree. -/
structure SameButCell (a : Word) (s t : State) : Prop where
  regs : sameRegs s t
  rom : t.rom = s.rom
  cart : t.cart = s.cart
  params : t.params = s.params
  total : t.cyclesTotal = s.cyclesTotal
  cells : ∀ b, plainAt b s → b ≠ a → byteAt b t = byteAt b s

section
variable {a : Word} {s t u : State}

theorem SameButCell.trans (h : SameButCell a s t) (k : SameButCell a t u) : SameButCell a s u where
  regs := by
    obtain ⟨a₁, x₁, y₁, sp₁, pc₁⟩ := h.regs
    obtain ⟨a₂, x₂, y₂, sp₂, pc₂⟩ := k.regs
    exact ⟨a₂.trans a₁, x₂.trans x₁, y₂.trans y₁, sp₂.trans sp₁, pc₂.trans pc₁⟩
  rom := k.rom.trans h.rom
  cart := k.cart.trans h.cart
  params := k.params.trans h.params
  total := k.total.trans h.total
  cells b plain other := by
    have plain' : plainAt b t := by rwa [plainAt, h.params]
    exact (k.cells b plain' other).trans (h.cells b plain other)

theorem memRead_sameButCell (a : Word) (s : State) : SameButCell a s (memRead a s).2 := by
  obtain ⟨regs, -, -, total, ram, rom, cart, -, -, -, -, -, params, -⟩ := memRead_leaves a s
  exact ⟨regs, rom, cart, params, total, fun _ plain _ => byteAt_congr plain ram rom cart params⟩

theorem memWrite_sameButCell (a : Word) (x : Byte) (s : State) : SameButCell a s (memWrite a x s) := by
  obtain ⟨regs, -, -, total, rom, cart, -, -, -, -, params, -⟩ := memWrite_leaves a x s
  exact ⟨regs, rom, cart, params, total, fun _ plain other =>
    memWrite_byteAt x plain (differentCell_of_ne plain other)⟩

theorem setStatus_sameButCell (a : Word) (p : Byte) (s : State) : SameButCell a s { s with p := p } :=
  ⟨⟨rfl, rfl, rfl, rfl, rfl⟩, rfl, rfl, rfl, rfl, fun _ plain _ => byteAt_congr plain rfl rfl rfl rfl⟩

theorem spend_sameButCell (a : Word) (op : Byte) (n : Nat) (s : State) : SameButCell a s (s.spend op n) :=
  ⟨⟨rfl, rfl, rfl, rfl, rfl⟩, rfl, rfl, rfl, rfl, fun _ plain _ => byteAt_congr plain rfl rfl rfl rfl⟩

theorem memWrite_p (a : Word) (x : Byte) (s : State) : (memWrite a x s).p = s.p := by
  obtain ⟨-, p, -⟩ := memWrite_leaves a x s
  exact p

theorem memRead_p (a : Word) (s : State) : (memRead a s).2.p = s.p := by
  obtain ⟨-, p, -⟩ := memRead_leaves a s
  exact p

theorem runStore_frame {op : Byte} {m : MemMode} {x : Byte} (h : runStore op m x s = .next t) :
    SameButCell (eaOf m s) s t ∧ t.p = s.p := by
  cases h
  exact ⟨(memWrite_sameButCell _ x s).trans (spend_sameButCell _ op 0 _), memWrite_p ..⟩

theorem runModify_frame {op : Byte} {m : MemMode} {f : Modify} (keeps : KeepsOtherFlags f)
    (h : runModify op m f s = .next t) :
    SameButCell (eaOf m s) s t ∧ ∀ g : Flag, g ≠ .n → g ≠ .z → g ≠ .c → t.flag g = s.flag g := by
  cases h
  have read := memRead_sameButCell (eaOf m s) s
  refine ⟨((read.trans (setStatus_sameButCell _ _ _)).trans (memWrite_sameButCell _ _ _)).trans
    (spend_sameButCell _ op 0 _), fun g n z c => ?_⟩
  calc getFlag g (memWrite _ _ _).p
    _ = getFlag g (f _ _).2 := by rw [memWrite_p]
    _ = getFlag g (memRead (eaOf m s) s).2.p := keeps _ _ g n z c
    _ = getFlag g s.p := by rw [memRead_p]

end

/-- Settles O12: by the shape of the form, a store or a read-modify-write instruction. -/
theorem storeFrame : Obligations.StoreFrame := by
  intro m i s t form ran
  have framed : SameButCell (eaOf m s) s t ∧ ((∃ f ∈ storeForms, f m = some i) → t.p = s.p) ∧
      ∀ g : Flag, g ≠ .n → g ≠ .z → g ≠ .c → t.flag g = s.flag g := by
    by_cases store : ∃ f ∈ storeForms, f m = some i
    · obtain ⟨op, x, meaning⟩ := exec_of_storeForm store
      obtain ⟨same, status⟩ := runStore_frame ((meaning s).symm.trans ran)
      exact ⟨same, fun _ => status, fun g _ _ _ => congrArg (getFlag g) status⟩
    · have modify : ∃ f ∈ modifyForms, f m = some i := by
        obtain ⟨f, mem, form⟩ := form
        obtain mem | mem := List.mem_append.1 mem
        · exact absurd ⟨f, mem, form⟩ store
        · exact ⟨f, mem, form⟩
      obtain ⟨op, f, keeps, meaning⟩ := exec_of_modifyForm modify
      obtain ⟨same, flags⟩ := runModify_frame keeps ((meaning s).symm.trans ran)
      exact ⟨same, fun h => absurd h store, flags⟩
  obtain ⟨same, status, flags⟩ := framed
  exact ⟨same.regs, same.rom, same.cart, same.params, same.total, same.cells, status, flags⟩

end Sys2Proof.Machine
end

section
/-! Every instruction costs at least one cycle (R131, R160), and every step goes on (R117, R615). -/

namespace Sys2Proof.Machine

/-- A meaning ends by spending the base cost of an opcode and a penalty (R131). -/
def Spends (r : Result) : Prop := ∃ u op n, r = .next (State.spend op n u)

/-- Every arm of the dispatch has one of the five shapes of an instruction, and each shape ends so. -/
theorem exec_spends (i : Instr) (s : State) : Spends (exec i s) := by
  cases i <;> exact ⟨_, _, _, rfl⟩

/-- What the parameters say of the base costs (R160, R330). -/
theorem baseCycles_of_wf {p : Params} (h : p.wf = true) :
    (∀ n ∈ p.baseCycles, 1 ≤ n) ∧ ∀ op ∈ undefinedOpcodes, baseCost p op = 1 := by
  simp only [Params.wf, Bool.and_eq_true] at h
  obtain ⟨⟨⟨⟨⟨⟨⟨⟨⟨⟨-, -⟩, costs⟩, -⟩, -⟩, -⟩, -⟩, -⟩, -⟩, -⟩, -⟩ := h
  simp only [Params.wfBaseCycles, Bool.and_eq_true, List.all_eq_true, decide_eq_true_eq] at costs
  obtain ⟨⟨⟨-, positive⟩, -⟩, undefined⟩ := costs
  exact ⟨positive, undefined⟩

theorem baseCost_pos {p : Params} (h : p.wf = true) (op : Byte) : 1 ≤ baseCost p op := by
  obtain ⟨positive, -⟩ := baseCycles_of_wf h
  unfold baseCost
  rw [List.getD_eq_getElem?_getD]
  cases entry : p.baseCycles[op.toNat]? with
  | none => exact le_rfl
  | some n => exact positive n (List.mem_of_getElem? entry)

theorem step_goesOn (s : State) : ∃ t, step s = .next t := by
  obtain ⟨u, ticked⟩ := cpuTick_goesOn s
  cases request : s.resetRequest with
  | some k => exact ⟨machineReset k s, by simp [step, request]⟩
  | none => exact ⟨deviceTicks u, by simp [step, request, machineTick, ticked]⟩

/-- Settles O39: the cost has a base cost as a summand, and no bus cycle changes the parameters that list
the base costs. -/
theorem everyStepGoesOn : Obligations.EveryStepGoesOn := by
  refine ⟨fun i s params => ?_, step_goesOn⟩
  obtain ⟨t, ran, path⟩ := exec_path i s
  obtain ⟨u, op, n, spent⟩ := exec_spends i s
  cases ran.symm.trans spent
  obtain ⟨-, -, sameParams⟩ :=
    (hasConfiguration_keptByBus s.rom s.cart s.params).path path ⟨rfl, rfl, rfl⟩
  refine ⟨_, spent, Nat.le_add_right_of_le (baseCost_pos ?_ op)⟩
  exact (congrArg Params.wf sameParams).trans params

end Sys2Proof.Machine
end

section
/-! The step between two fetches and at a fetch from the plain stores (R110 to R112, R116, R131, U2). -/

namespace Sys2Proof.Machine

/-! ### Fetching from the plain stores -/

/-- The machine with `n` bytes of the instruction at `PC` fetched. -/
def State.past (n : Nat) (s : State) : State := { s with pc := s.pc + BitVec.ofNat 16 n }

theorem past_zero (s : State) : s.past 0 = s := by simp [State.past]

theorem byteAt_past (a : Word) (n : Nat) (s : State) : byteAt a (s.past n) = byteAt a s := by
  unfold byteAt memRead
  simp only [State.past]
  split <;> rfl

theorem fetch_past {s : State} {n : Nat} (h : plainAt (s.pc + BitVec.ofNat 16 n) s) :
    fetch (s.past n) = (byteAtPc n s, s.past (n + 1)) := by
  have unchanged : (memRead (s.past n).pc (s.past n)).2 = s.past n := memRead_plain h
  have read : (memRead (s.past n).pc (s.past n)).1 = byteAtPc n s := byteAt_past ..
  simp only [fetch, unchanged, read]
  simp [State.past, BitVec.add_assoc, BitVec.ofNat_add]

theorem fetch_plain {s : State} (h : plainAt s.pc s) : fetch s = (byteAtPc 0 s, s.past 1) := by
  have first := fetch_past (s := s) (n := 0) (by simpa using h)
  rwa [past_zero] at first

/-- The operand bytes of a cell of the opcode map do not change its instruction's length (R130). -/
def FixedLength (c : Cell) : Prop := ∀ b1 b2, (c b1 b2).length = (c 0x00#8 0x00#8).length - 1 + 1

theorem opcodeMap_fixedLength : ∀ row ∈ opcodeMap, ∀ c ∈ row, FixedLength c := by
  simp only [opcodeMap, opcodeRow0, opcodeRow1, opcodeRow2, opcodeRow3, opcodeRow4, opcodeRow5, opcodeRow6,
    opcodeRow7, opcodeRow8, opcodeRow9, opcodeRowA, opcodeRowB, opcodeRowC, opcodeRowD, opcodeRowE,
    opcodeRowF, List.forall_mem_cons, List.not_mem_nil, false_imp_iff, implies_true, and_true]
  and_intros
  all_goals exact fun _ _ => rfl

/-- The opcode alone fixes how many bytes the decoded instruction has (R130). -/
theorem decodeOp_length (op b1 b2 : Byte) : (decodeOp op b1 b2).length = operandCount op + 1 := by
  have rowLength : ∀ row ∈ opcodeMap, row.length = 16 := by decide
  have row : op.toNat / 16 < opcodeMap.length := by
    have := op.isLt
    simp only [opcodeMap, List.length_cons, List.length_nil]
    omega
  have column : op.toNat % 16 < opcodeMap[op.toNat / 16].length := by
    rw [rowLength _ (List.getElem_mem row)]
    omega
  have fixed := opcodeMap_fixedLength _ (List.getElem_mem row) _ (List.getElem_mem column)
  simp only [operandCount, decodeOp, List.getD_eq_getElem _ _ row, List.getD_eq_getElem _ _ column]
  exact fixed b1 b2

/-- What the fetch reads when its bytes lie in plain memory: the decoder's instruction, with `PC` past it. -/
theorem fetchInstr_of_decode {s : State} {i : Instr} {rest : List Byte}
    (tier : s.params.isaTier = .baseAndCmos) (plain : plainFetch s)
    (decoded : decode [byteAtPc 0 s, byteAtPc 1 s, byteAtPc 2 s] = .ok (i, rest)) :
    fetchInstr s = (i, s.past i.length) := by
  obtain ⟨plain0, plain1, plain2⟩ := plain
  have opcode := fetch_plain plain0
  have operand1 := fetch_past (n := 1) plain1
  have operand2 := fetch_past (n := 2) plain2
  simp only [decode] at decoded
  split at decoded
  case h_1 count =>
    cases decoded
    simp [fetchInstr, tier, operandCountTiered, decodeTiered, opcode, count, decodeOp_length]
  case h_2 count same =>
    cases same
    cases decoded
    simp [fetchInstr, tier, operandCountTiered, decodeTiered, opcode, operand1, count, decodeOp_length]
  case h_3 count same =>
    cases same
    cases decoded
    simp [fetchInstr, tier, operandCountTiered, decodeTiered, opcode, operand1, operand2, count,
      decodeOp_length]
  case h_4 => cases decoded

/-- A machine tick that executes an instruction, from what the fetch and the meaning answer (R111, R112). -/
theorem step_of_fetch {s t u : State} {i : Instr} (noReset : s.resetRequest = none)
    (due : s.cyclesRemaining = 0) (fetched : fetchInstr s = (i, t)) (ran : exec i t = .next u) :
    step s = .next (deviceTicks (countCycle (deliverPosted u))) := by
  simp [step, noReset, machineTick, cpuTick, due, executeInstruction, fetched, ran]

/-- Settles O8: the fetch reads what the decoder reads from the three bytes. -/
theorem stepRunsDecoded : Obligations.StepRunsDecoded := by
  intro s u i rest noReset due tier plain decoded ran
  exact step_of_fetch noReset due (fetchInstr_of_decode tier plain decoded) ran

/-! ### Undefined opcodes and the base tier (R153, R330, U2) -/

theorem undefinedInstrs_eq_map :
    undefinedInstrs = undefinedOpcodes.map fun op => decodeOp op 0x00#8 0x00#8 := rfl

theorem map_opcode_undefinedInstrs : undefinedInstrs.map Instr.opcode = undefinedOpcodes := rfl

theorem opcode_of_undefined {i : Instr} (h : i ∈ undefinedInstrs) : i.opcode ∈ undefinedOpcodes := by
  rw [← map_opcode_undefinedInstrs]
  exact List.mem_map_of_mem h

theorem map_operandCount_undefinedOpcodes : undefinedOpcodes.map operandCount = List.replicate 78 0 := rfl

theorem operandCount_of_undefined {op : Byte} (h : op ∈ undefinedOpcodes) : operandCount op = 0 := by
  have count : operandCount op ∈ undefinedOpcodes.map operandCount := List.mem_map_of_mem h
  rw [map_operandCount_undefinedOpcodes] at count
  exact List.eq_of_mem_replicate count

/-- Under `ISA_TIER = base` an opcode of tier `cmos` is one byte that means an undefined opcode, as the
undefined ones are (U2). -/
theorem decodeTiered_base {op : Byte} (h : op ∈ cmosOpcodes ++ undefinedOpcodes) :
    operandCountTiered .base op = 0 ∧ decodeTiered .base op 0x00#8 0x00#8 ∈ undefinedInstrs := by
  by_cases cmos : op ∈ cmosOpcodes
  · simp [operandCountTiered, decodeTiered, cmos, undefinedInstrs, undefinedInstrs1]
  · have undefined : op ∈ undefinedOpcodes := (List.mem_append.1 h).resolve_left cmos
    simp only [operandCountTiered, decodeTiered, cmos, if_false, undefinedInstrs_eq_map]
    exact ⟨operandCount_of_undefined undefined, List.mem_map_of_mem undefined⟩

theorem exec_of_undefined {i : Instr} (h : i ∈ undefinedInstrs) (s : State) :
    exec i s = .next (s.spend i.opcode 0) := by
  revert i
  simp only [undefinedInstrs, undefinedInstrs1, undefinedInstrs2, undefinedInstrs3, List.forall_mem_append,
    List.forall_mem_cons, List.not_mem_nil, false_imp_iff, implies_true, and_true]
  and_intros
  all_goals rfl

/-- Under `ISA_TIER = base` an opcode of tier `cmos` and an undefined one are fetched as one byte (U2). -/
theorem fetchInstr_base {s : State} (tier : s.params.isaTier = .base) (plain : plainAt s.pc s)
    (op : byteAtPc 0 s ∈ cmosOpcodes ++ undefinedOpcodes) :
    ∃ i ∈ undefinedInstrs, fetchInstr s = (i, s.past 1) := by
  obtain ⟨count, undefined⟩ := decodeTiered_base op
  refine ⟨_, undefined, ?_⟩
  simp [fetchInstr, tier, fetch_plain plain, count]

/-! ### The device half of the step (R110) -/

theorem viaTickEveryCycle_of_wf {p : Params} (h : p.wf = true) : p.viaTickEveryCycle = true := by
  simp only [Params.wf, Bool.and_eq_true] at h
  obtain ⟨⟨⟨-, everyCycle⟩, -⟩, -⟩ := h
  exact everyCycle

@[simp] theorem viaTickAt_snd (coarse : Bool) (s : State) : (viaTickAt coarse s).snd = s.snd := by
  unfold viaTickAt
  split <;> simp

@[simp] theorem viaTickAt_vdp (coarse : Bool) (s : State) : (viaTickAt coarse s).vdp = s.vdp := by
  unfold viaTickAt
  split <;> simp

/-- The VIA is clocked once in every machine tick (R110). -/
theorem deviceTicks_via {s : State} (h : s.params.viaTickEveryCycle = true) :
    (deviceTicks s).via = s.via.tick.2 := by
  unfold deviceTicks
  rw [viaTickAt_every (by simpa using h)]
  simp only
  split
  · rw [coarseTicks, viaTickAt_coarse (by simpa using h)]
    simp
  · simp

/-- Between two coarse ticks neither the sound nor the video card is clocked. -/
theorem deviceTicks_fine {s : State} (h : s.schedAcc + 1 < s.params.tickInterval) :
    (deviceTicks s).snd = s.snd ∧ (deviceTicks s).vdp = s.vdp := by
  have fine : ¬ s.params.tickInterval ≤ s.schedAcc + 1 := Nat.not_le.2 h
  simp [deviceTicks, fine]

theorem deviceTicks_coarse_snd {s : State} (h : s.params.tickInterval ≤ s.schedAcc + 1) :
    (deviceTicks s).snd = s.snd.tick s.params := by
  simp [deviceTicks, h, coarseTicks]

/-- Settles O9: each case by the branch of the step that it takes; under the base tier the fetched
instruction is that of an undefined opcode, which spends one cycle. -/
theorem stepOtherwise : Obligations.StepOtherwise := by
  intro s
  refine ⟨?passing, ?reset, ?base, ?devices⟩
  case passing =>
    intro noReset remaining
    simp [step, noReset, machineTick, cpuTick, remaining, countCycle]
  case reset =>
    intro k request
    simp [step, request]
  case base =>
    intro noReset due tier plain op waiting params
    obtain ⟨i, undefined, fetched⟩ := fetchInstr_base tier plain op
    have cost : baseCost s.params i.opcode = 1 := by
      obtain ⟨-, undefinedCost⟩ := baseCycles_of_wf params
      exact undefinedCost _ (opcode_of_undefined undefined)
    rw [step_of_fetch noReset due fetched (exec_of_undefined undefined _)]
    simp [deliverPosted, deliverAll, State.spend, State.past, countCycle, waiting, cost]
  case devices =>
    intro params
    refine ⟨deviceTicks_via (viaTickEveryCycle_of_wf params), fun fine => ?_, fun coarse => ?_⟩
    · exact ⟨by rw [deviceTicks_schedAcc, if_neg (Nat.not_le.2 fine)], deviceTicks_fine fine⟩
    · exact ⟨by rw [deviceTicks_schedAcc, if_pos coarse], deviceTicks_coarse_snd coarse⟩

end Sys2Proof.Machine
end

section
/-! The decoder and the encoder (R130, R150, R151): each cell of the opcode map writes an instruction whose
encoding is the cell's own opcode byte and the operand bytes that its format uses. -/

namespace Sys2Proof

/-! ### The encoding of what a cell decodes to -/

/-- The format of a cell that stands at the opcode byte `op` (R130). -/
inductive HasFormat (op : Byte) : Cell → Prop where
  | one {i : Instr} (code : i.encode = [op]) : HasFormat op (cell1 i)
  | two {f : Byte → Instr} (code : ∀ b, (f b).encode = [op, b]) : HasFormat op (cell2 f)
  | three {f : Word → Instr} (code : ∀ w, (f w).encode = [op, lo w, hi w]) : HasFormat op (cell3 f)

/-- Each cell of the map stands at the opcode byte of its row and column (R150). The function that builds a
cell fixes its format. -/
theorem opcodeMap_hasFormat : ∀ row ∈ opcodeMap.zipIdx, ∀ cell ∈ row.1.zipIdx,
    HasFormat (BitVec.ofNat 8 (16 * row.2 + cell.2)) cell.1 := by
  simp only [opcodeMap, opcodeRow0, opcodeRow1, opcodeRow2, opcodeRow3, opcodeRow4, opcodeRow5, opcodeRow6,
    opcodeRow7, opcodeRow8, opcodeRow9, opcodeRowA, opcodeRowB, opcodeRowC, opcodeRowD, opcodeRowE,
    opcodeRowF, List.zipIdx_cons, List.zipIdx_nil, List.forall_mem_cons, List.not_mem_nil, false_imp_iff,
    implies_true, and_true]
  and_intros
  all_goals
    constructor
    intros
    rfl

theorem decodeOp_hasFormat (op : Byte) : HasFormat op (decodeOp op) := by
  have rowLength : ∀ row ∈ opcodeMap, row.length = 16 := by decide
  have row : op.toNat / 16 < opcodeMap.length := by
    have := op.isLt
    simp only [opcodeMap, List.length_cons, List.length_nil]
    omega
  have column : op.toNat % 16 < opcodeMap[op.toNat / 16].length := by
    rw [rowLength _ (List.getElem_mem row)]
    omega
  have format := opcodeMap_hasFormat _ (List.mk_mem_zipIdx_iff_getElem?.2 (List.getElem?_eq_getElem row)) _
    (List.mk_mem_zipIdx_iff_getElem?.2 (List.getElem?_eq_getElem column))
  have cell : decodeOp op = opcodeMap[op.toNat / 16][op.toNat % 16] := by
    funext b1 b2
    simp only [decodeOp, List.getD_eq_getElem _ _ row, List.getD_eq_getElem _ _ column]
  simp only [Nat.div_add_mod, BitVec.ofNat_toNat, BitVec.setWidth_eq] at format
  rwa [cell]

theorem HasFormat.encode_eq {op : Byte} {c : Cell} (h : HasFormat op c) (b1 b2 : Byte) :
    (c b1 b2).encode = op :: [b1, b2].take ((c 0x00#8 0x00#8).length - 1) := by
  cases h with
  | one code => simp [cell1, Instr.length, code]
  | two code => simp [cell2, Instr.length, code]
  | three code => simp [cell3, Instr.length, code]

/-- What an opcode byte and two bytes decode to is encoded by that opcode and as many of the two bytes as
the opcode fetches (R130). -/
theorem encode_decodeOp (op b1 b2 : Byte) :
    (decodeOp op b1 b2).encode = op :: [b1, b2].take (operandCount op) :=
  (decodeOp_hasFormat op).encode_eq b1 b2

/-- Settles O2: in each case of the decoder the encoding has the bytes that the case took. -/
theorem encodeDecode : Obligations.EncodeDecode := by
  intro bytes i rest decoded
  cases bytes with
  | nil => cases decoded
  | cons op operands =>
    simp only [decode] at decoded
    split at decoded
    case h_1 count | h_2 count | h_3 count =>
      cases decoded
      simp [encode_decodeOp, count]
    case h_4 => cases decoded

/-! ### The decoding of what an instruction encodes to -/

/-- No opcode fetches more than two operand bytes (R130). -/
theorem operandCount_le_two (op : Byte) : operandCount op ≤ 2 := by
  have length := Machine.decodeOp_length op 0x00#8 0x00#8
  rw [Instr.length, encode_decodeOp] at length
  simp only [List.length_cons, List.length_take, List.length_nil] at length
  omega

/-- The round trip of every instruction: the lemma of its constructor, in the order of the opcode map. -/
theorem roundTrip (i : Instr) : Laws.RoundTrip.Statement i := by
  open Laws.RoundTrip in
  cases i <;> simp only [
    brk, oraIndX, nopUnk02, nopUnk03, tsbZp, oraZp, aslZp, nopUnk07, php, oraImm, aslA, nopUnk0B, tsbAbs,
    oraAbs, aslAbs, nopUnk0F,
    bpl, oraIndY, oraZpInd, nopUnk13, trbZp, oraZpX, aslZpX, nopUnk17, clc, oraAbsY, incA, nopUnk1B,
    trbAbs, oraAbsX, aslAbsX, nopUnk1F,
    jsr, andIndX, nopUnk22, nopUnk23, bitZp, andZp, rolZp, nopUnk27, plp, andImm, rolA, nopUnk2B, bitAbs,
    andAbs, rolAbs, nopUnk2F,
    bmi, andIndY, andZpInd, nopUnk33, bitZpX, andZpX, rolZpX, nopUnk37, sec, andAbsY, decA, nopUnk3B,
    bitAbsX, andAbsX, rolAbsX, nopUnk3F,
    rti, eorIndX, nopUnk42, nopUnk43, nopUnk44, eorZp, lsrZp, nopUnk47, pha, eorImm, lsrA, nopUnk4B,
    jmpAbs, eorAbs, lsrAbs, nopUnk4F,
    bvc, eorIndY, eorZpInd, nopUnk53, nopUnk54, eorZpX, lsrZpX, nopUnk57, cli, eorAbsY, phy, nopUnk5B,
    nopUnk5C, eorAbsX, lsrAbsX, nopUnk5F,
    rts, adcIndX, nopUnk62, nopUnk63, stzZp, adcZp, rorZp, nopUnk67, pla, adcImm, rorA, nopUnk6B, jmpInd,
    adcAbs, rorAbs, nopUnk6F,
    bvs, adcIndY, adcZpInd, nopUnk73, stzZpX, adcZpX, rorZpX, nopUnk77, sei, adcAbsY, ply, nopUnk7B,
    jmpAbsIndX, adcAbsX, rorAbsX, nopUnk7F,
    bra, staIndX, nopUnk82, nopUnk83, styZp, staZp, stxZp, nopUnk87, dey, bitImm, txa, nopUnk8B, styAbs,
    staAbs, stxAbs, nopUnk8F,
    bcc, staIndY, staZpInd, nopUnk93, styZpX, staZpX, stxZpY, nopUnk97, tya, staAbsY, txs, nopUnk9B,
    stzAbs, staAbsX, stzAbsX, nopUnk9F,
    ldyImm, ldaIndX, ldxImm, nopUnkA3, ldyZp, ldaZp, ldxZp, nopUnkA7, tay, ldaImm, tax, nopUnkAB, ldyAbs,
    ldaAbs, ldxAbs, nopUnkAF,
    bcs, ldaIndY, ldaZpInd, nopUnkB3, ldyZpX, ldaZpX, ldxZpY, nopUnkB7, clv, ldaAbsY, tsx, nopUnkBB,
    ldyAbsX, ldaAbsX, ldxAbsY, nopUnkBF,
    cpyImm, cmpIndX, nopUnkC2, nopUnkC3, cpyZp, cmpZp, decZp, nopUnkC7, iny, cmpImm, dex, nopUnkCB, cpyAbs,
    cmpAbs, decAbs, nopUnkCF,
    bne, cmpIndY, cmpZpInd, nopUnkD3, nopUnkD4, cmpZpX, decZpX, nopUnkD7, cld, cmpAbsY, phx, nopUnkDB,
    nopUnkDC, cmpAbsX, decAbsX, nopUnkDF,
    cpxImm, sbcIndX, nopUnkE2, nopUnkE3, cpxZp, sbcZp, incZp, nopUnkE7, inx, sbcImm, nop, nopUnkEB, cpxAbs,
    sbcAbs, incAbs, nopUnkEF,
    beq, sbcIndY, sbcZpInd, nopUnkF3, nopUnkF4, sbcZpX, incZpX, nopUnkF7, sed, sbcAbsY, plx, nopUnkFB,
    nopUnkFC, sbcAbsX, incAbsX, nopUnkFF]

/-- Settles O1: the opcode of the encoding fixes its length, and its bytes decode back to the instruction. -/
theorem decodeEncode : Obligations.DecodeEncode := by
  intro i rest
  obtain ⟨back, count⟩ := roundTrip i
  have atMost := operandCount_le_two i.opcode
  simp only [Instr.opcode, Instr.length] at back count atMost
  generalize i.encode = bytes at back count atMost
  match bytes with
  | [] => simp at count
  | [op] =>
    have none : operandCount op = 0 := by simpa using count
    simpa [decode, none] using back
  | [op, b1] =>
    have one : operandCount op = 1 := by simpa using count
    simpa [decode, one] using back
  | [op, b1, b2] =>
    have two : operandCount op = 2 := by simpa using count
    simpa [decode, two] using back
  | _ :: _ :: _ :: _ :: _ =>
    simp only [List.headD_cons, List.length_cons] at count atMost
    omega

/-- Settles O3: the ten words are encodings, each followed by no byte. -/
theorem sampleWords : Obligations.SampleWords :=
  ⟨decodeEncode (.ldaImm 0x42#8) [], decodeEncode (.staAbs 0x0200#16) [], decodeEncode (.staIndY 0x10#8) [],
    decodeEncode (.adcImm 0x01#8) [], decodeEncode .dex [], decodeEncode (.aslAbsX 0x1234#16) [],
    decodeEncode (.jmpInd 0x12FF#16) [], decodeEncode (.bne 0xFA#8) [], decodeEncode .brk [],
    decodeEncode .nopUnkCB []⟩

end Sys2Proof
end

section
/-! The addressing modes (R136 to R145), and the instructions that work on registers alone (R134, R178 to
R183, R233 to R236, R320 to R327, R330). -/

namespace Sys2Proof.Machine

/-! ### Effective addresses -/

/-- A mode that adds no index to a 16-bit base. -/
theorem unindexed_mode {m : MemMode} {s : State} (h : m.index s = 0x00#8) :
    eaOf m s = m.base s ∧ crossedOf m s = false := by
  have sum : eaOf m s = m.base s := by simp [eaOf, h, zext16]
  exact ⟨sum, by simp [crossedOf, pageDiffers, sum]⟩

/-- Settles O7: a mode is its base, or its base and an index that may change the page. -/
theorem effectiveAddresses : Obligations.EffectiveAddresses := by
  intro z a s
  refine ⟨?zp, ?zpX, ?zpY, ?abs, ?absX, ?absY, ?indX, ?indY, ?zpInd⟩
  case zp | zpX | zpY | abs | indX | zpInd => exact unindexed_mode rfl
  case absX | absY | indY => exact ⟨rfl, rfl⟩

/-! ### Instructions that work on registers alone -/

/-- A read at any address depends only on what is outside the CPU. -/
theorem byteAt_of_sameMachine {s t : State} (h : sameMachine s t) (b : Word) : byteAt b t = byteAt b s := by
  obtain ⟨ram, rom, cart, -, vdp, snd, via, slots, params, -⟩ := h
  unfold byteAt memRead
  rw [ram, rom, cart, vdp, snd, via, slots, params]
  split <;> rfl

/-- An instruction writes nothing but `A`, `X`, `Y`, the flags other than `B` and `U`, its cost and, when it
is TXS, `SP`. -/
def WritesRegisters (i : Instr) : Prop :=
  ∀ s, ∃ a x y sp p cost,
    exec i s = .next { s with a := a, x := x, y := y, sp := sp, p := p, cyclesRemaining := cost } ∧
    fixedBits p = fixedBits s.p ∧ (i ≠ .txs → sp = s.sp)

/-- Increments and transfers set `N` and `Z`, the accumulator shifts `C` too, and a flag instruction its
flag. -/
theorem writesRegisters_of_registerInstr {i : Instr} (h : i ∈ registerInstrs) : WritesRegisters i := by
  intro s
  cases i with
  | incA | decA | inx | iny | dex | dey | tax | tay | txa | tya | tsx =>
    exact ⟨_, _, _, _, _, _, rfl, fixedBits_nzBits _ s.p, fun _ => rfl⟩
  | aslA | lsrA | rolA | rorA => exact ⟨_, _, _, _, _, _, rfl, fixedBits_shiftBits _ _ s.p, fun _ => rfl⟩
  | clc | sec | cli | sei | clv | cld | sed =>
    exact ⟨_, _, _, _, _, _, rfl, fixedBits_putFlag (by decide) _ s.p, fun _ => rfl⟩
  | nop => exact ⟨_, _, _, _, _, _, rfl, rfl, fun _ => rfl⟩
  | txs => exact ⟨_, _, _, _, _, _, rfl, rfl, fun other => absurd rfl other⟩
  | _ => simp [registerInstrs] at h

theorem writesRegisters_of_undefined {i : Instr} (h : i ∈ undefinedInstrs) : WritesRegisters i := fun s =>
  ⟨_, _, _, _, _, _, exec_of_undefined h s, rfl, fun _ => rfl⟩

/-- Settles O14: nothing outside the CPU is written, so every address reads as before. -/
theorem registerFrame : Obligations.RegisterFrame := by
  intro i s t mem ran
  have writes : WritesRegisters i :=
    (List.mem_append.1 mem).elim writesRegisters_of_registerInstr writesRegisters_of_undefined
  obtain ⟨a, x, y, sp, p, cost, meaning, fixed, sameSp⟩ := writes s
  cases meaning.symm.trans ran
  obtain ⟨b, u⟩ := Prod.mk.inj fixed
  have machine := sameMachine_refl s
  exact ⟨machine, byteAt_of_sameMachine machine, rfl, rfl, rfl, b, u, sameSp⟩

end Sys2Proof.Machine
end

section
/-! Loads and stores in every form (R170 to R177): each form runs the shape of its mnemonic under its own
opcode, and no bus cycle changes the parameters that list the base costs. -/

namespace Sys2Proof.Machine

/-! ### What the shapes of an instruction answer -/

/-- The cost of an instruction whose effect leaves the parameters alone (R131). -/
theorem spend_eq_costOf {s t : State} (params : t.params = s.params) (i : Instr) (penalty : Nat) :
    t.spend i.opcode penalty = { t with cyclesRemaining := costOf i s penalty } := by
  rw [State.spend, costOf, params]

/-- Reading an operand changes what a bus read changes, or nothing (R135, R170). -/
theorem readOperand_leaves (o : Operand) (s : State) : readLeavesAlone s (readOperand o s).2 := by
  cases o with
  | imm v => simp [readOperand, readLeavesAlone, sameRegs]
  | mem m => exact memRead_leaves _ s

theorem readOperand_params (o : Operand) (s : State) : (readOperand o s).2.params = s.params := by
  obtain ⟨-, -, -, -, -, -, -, -, -, -, -, -, params, -⟩ := readOperand_leaves o s
  exact params

theorem memWrite_params (a : Word) (x : Byte) (s : State) : (memWrite a x s).params = s.params :=
  (memWrite_sameButCell a x s).params

theorem runRead_eq (i : Instr) (o : Operand) {f : Byte → State → State}
    (keeps : ∀ m t, (f m t).params = t.params) (s : State) :
    runRead i.opcode o f s = .next { f (readOperand o s).1 (readOperand o s).2 with
      cyclesRemaining := costOf i s (crossPenalty (o.crossed s)) } := by
  rw [runRead, spend_eq_costOf ((keeps _ _).trans (readOperand_params o s))]

theorem runStore_eq (i : Instr) (m : MemMode) (x : Byte) (s : State) :
    runStore i.opcode m x s = .next { memWrite (eaOf m s) x s with cyclesRemaining := costOf i s 0 } := by
  rw [runStore, spend_eq_costOf (memWrite_params ..)]

/-! ### The forms of the loads and the stores -/

section
variable {o : Operand} {m : MemMode} {i : Instr}

theorem exec_of_ldaForm (h : ldaForm o = some i) (s : State) : exec i s = runRead i.opcode o loadA s := by
  cases o with
  | imm v => cases h; rfl
  | mem m => cases m <;> cases h <;> rfl

theorem exec_of_ldxForm (h : ldxForm o = some i) (s : State) : exec i s = runRead i.opcode o loadX s := by
  cases o with
  | imm v => cases h; rfl
  | mem m => cases m <;> cases h <;> rfl

theorem exec_of_ldyForm (h : ldyForm o = some i) (s : State) : exec i s = runRead i.opcode o loadY s := by
  cases o with
  | imm v => cases h; rfl
  | mem m => cases m <;> cases h <;> rfl

theorem exec_of_staForm (h : staForm m = some i) (s : State) : exec i s = runStore i.opcode m s.a s := by
  cases m <;> cases h <;> rfl

theorem exec_of_stxForm (h : stxForm m = some i) (s : State) : exec i s = runStore i.opcode m s.x s := by
  cases m <;> cases h <;> rfl

theorem exec_of_styForm (h : styForm m = some i) (s : State) : exec i s = runStore i.opcode m s.y s := by
  cases m <;> cases h <;> rfl

theorem exec_of_stzForm (h : stzForm m = some i) (s : State) :
    exec i s = runStore i.opcode m 0x00#8 s := by
  cases m <;> cases h <;> rfl

end

/-- Settles O10: every form reads its operand once and loads its register. -/
theorem loadResult : Obligations.LoadResult := by
  refine ⟨⟨rfl, rfl, rfl⟩, fun o i s => ⟨fun form => ?lda, fun form => ?ldx, fun form => ?ldy⟩⟩
  case lda => exact (exec_of_ldaForm form s).trans (runRead_eq i o (f := loadA) (fun _ _ => rfl) s)
  case ldx => exact (exec_of_ldxForm form s).trans (runRead_eq i o (f := loadX) (fun _ _ => rfl) s)
  case ldy => exact (exec_of_ldyForm form s).trans (runRead_eq i o (f := loadY) (fun _ _ => rfl) s)

/-- Settles O11: every form writes its register, or 0, once. -/
theorem storeResult : Obligations.StoreResult := by
  refine ⟨⟨rfl, rfl, rfl, rfl⟩, fun m i s =>
    ⟨fun form => ?sta, fun form => ?stx, fun form => ?sty, fun form => ?stz⟩⟩
  case sta => exact (exec_of_staForm form s).trans (runStore_eq i m s.a s)
  case stx => exact (exec_of_stxForm form s).trans (runStore_eq i m s.x s)
  case sty => exact (exec_of_styForm form s).trans (runStore_eq i m s.y s)
  case stz => exact (exec_of_stzForm form s).trans (runStore_eq i m 0x00#8 s)

end Sys2Proof.Machine
end

section
/-! Instructions that only read their operand (R170 to R173, R220 to R230): beyond the read, each writes the
registers and the flags that its rule names. -/

namespace Sys2Proof.Machine

/-! ### The other forms that read their operand -/

section
variable {o : Operand} {i : Instr}

theorem exec_of_adcForm (h : adcForm o = some i) (s : State) :
    exec i s = runRead i.opcode o addWithCarry s := by
  cases o with
  | imm v => cases h; rfl
  | mem m => cases m <;> cases h <;> rfl

theorem exec_of_sbcForm (h : sbcForm o = some i) (s : State) :
    exec i s = runRead i.opcode o subWithBorrow s := by
  cases o with
  | imm v => cases h; rfl
  | mem m => cases m <;> cases h <;> rfl

theorem exec_of_andForm (h : andForm o = some i) (s : State) : exec i s = runRead i.opcode o andA s := by
  cases o with
  | imm v => cases h; rfl
  | mem m => cases m <;> cases h <;> rfl

theorem exec_of_oraForm (h : oraForm o = some i) (s : State) : exec i s = runRead i.opcode o oraA s := by
  cases o with
  | imm v => cases h; rfl
  | mem m => cases m <;> cases h <;> rfl

theorem exec_of_eorForm (h : eorForm o = some i) (s : State) : exec i s = runRead i.opcode o eorA s := by
  cases o with
  | imm v => cases h; rfl
  | mem m => cases m <;> cases h <;> rfl

theorem exec_of_cmpForm (h : cmpForm o = some i) (s : State) :
    exec i s = runRead i.opcode o (fun m t => compareWith t.a m t) s := by
  cases o with
  | imm v => cases h; rfl
  | mem m => cases m <;> cases h <;> rfl

theorem exec_of_cpxForm (h : cpxForm o = some i) (s : State) :
    exec i s = runRead i.opcode o (fun m t => compareWith t.x m t) s := by
  cases o with
  | imm v => cases h; rfl
  | mem m => cases m <;> cases h <;> rfl

theorem exec_of_cpyForm (h : cpyForm o = some i) (s : State) :
    exec i s = runRead i.opcode o (fun m t => compareWith t.y m t) s := by
  cases o with
  | imm v => cases h; rfl
  | mem m => cases m <;> cases h <;> rfl

/-- The effect of BIT: its immediate form sets `Z` only (R230). -/
def bitEffect (o : Operand) : Byte → State → State :=
  match o with
  | .imm _ => bitTestImm
  | .mem _ => bitTest

theorem exec_of_bitForm (h : bitForm o = some i) (s : State) :
    exec i s = runRead i.opcode o (bitEffect o) s := by
  cases o with
  | imm v => cases h; rfl
  | mem m => cases m <;> cases h <;> rfl

end

/-! ### What each effect writes -/

/-- The registers that a reading instruction can write. -/
inductive DataReg where
  | a
  | x
  | y

/-- Nothing but the listed registers and flags, and the count of free decimal results, changes. -/
structure ChangesOnly (regs : List DataReg) (flags : List Flag) (s t : State) : Prop where
  machine : sameMachine s t
  sp : t.sp = s.sp
  pc : t.pc = s.pc
  total : t.cyclesTotal = s.cyclesTotal
  a : .a ∉ regs → t.a = s.a
  x : .x ∉ regs → t.x = s.x
  y : .y ∉ regs → t.y = s.y
  flag : ∀ g ∉ flags, t.flag g = s.flag g

theorem setStatus_changesOnly {flags : List Flag} {s : State} {p : Byte}
    (h : ∀ g ∉ flags, getFlag g p = getFlag g s.p) : ChangesOnly [] flags s { s with p := p } :=
  ⟨sameMachine_refl s, rfl, rfl, rfl, fun _ => rfl, fun _ => rfl, fun _ => rfl, h⟩

theorem getFlag_nzBits_of_notMem {g : Flag} (h : g ∉ [.n, .z]) (r p : Byte) :
    getFlag g (nzBits r p) = getFlag g p := by
  simp only [List.mem_cons, List.not_mem_nil, or_false, not_or] at h
  obtain ⟨n, z⟩ := h
  rw [getFlag_nzBits, if_neg n, if_neg z]

theorem loadA_changesOnly (m : Byte) (s : State) : ChangesOnly [.a] [.n, .z] s (loadA m s) :=
  ⟨sameMachine_refl s, rfl, rfl, rfl, fun other => absurd (List.mem_singleton_self _) other,
    fun _ => rfl, fun _ => rfl, fun _ other => getFlag_nzBits_of_notMem other m s.p⟩

theorem loadX_changesOnly (m : Byte) (s : State) : ChangesOnly [.x] [.n, .z] s (loadX m s) :=
  ⟨sameMachine_refl s, rfl, rfl, rfl, fun _ => rfl,
    fun other => absurd (List.mem_singleton_self _) other, fun _ => rfl,
    fun _ other => getFlag_nzBits_of_notMem other m s.p⟩

theorem loadY_changesOnly (m : Byte) (s : State) : ChangesOnly [.y] [.n, .z] s (loadY m s) :=
  ⟨sameMachine_refl s, rfl, rfl, rfl, fun _ => rfl, fun _ => rfl,
    fun other => absurd (List.mem_singleton_self _) other,
    fun _ other => getFlag_nzBits_of_notMem other m s.p⟩

/-- A result of the adder, with the count of free decimal results at `drawn`. -/
theorem putAlu_changesOnly (r : AluResult) (drawn : Nat) (s : State) :
    ChangesOnly [.a] [.n, .z, .c, .v] s { s.putAlu r with bcdDrawn := drawn } where
  machine := sameMachine_refl s
  sp := rfl
  pc := rfl
  total := rfl
  a other := absurd (List.mem_singleton_self _) other
  x _ := rfl
  y _ := rfl
  flag g other := by
    simp only [List.mem_cons, List.not_mem_nil, or_false, not_or] at other
    obtain ⟨n, z, c, v⟩ := other
    exact (getFlag_aluBits g r s.p).trans (by simp [State.flag, n, z, c, v])

theorem addWithCarry_changesOnly (m : Byte) (s : State) :
    ChangesOnly [.a] [.n, .z, .c, .v] s (addWithCarry m s) := by
  unfold addWithCarry
  split
  case isTrue => exact putAlu_changesOnly _ (s.bcdDrawn + 1) s
  case isFalse => exact putAlu_changesOnly _ s.bcdDrawn s

theorem subWithBorrow_changesOnly (m : Byte) (s : State) :
    ChangesOnly [.a] [.n, .z, .c, .v] s (subWithBorrow m s) := by
  unfold subWithBorrow
  split
  case isTrue => exact putAlu_changesOnly _ (s.bcdDrawn + 1) s
  case isFalse => exact putAlu_changesOnly _ s.bcdDrawn s

theorem compareWith_changesOnly (r m : Byte) (s : State) :
    ChangesOnly [] [.n, .z, .c] s (compareWith r m s) :=
  setStatus_changesOnly fun g other => by
    simp only [List.mem_cons, List.not_mem_nil, or_false, not_or] at other
    obtain ⟨n, z, c⟩ := other
    simp [getFlag_compareBits, n, z, c]

/-- BIT immediate sets fewer flags than BIT on memory. -/
theorem bitEffect_changesOnly (o : Operand) (m : Byte) (s : State) :
    ChangesOnly [] [.n, .z, .v] s (bitEffect o m s) := by
  cases o
  all_goals
    refine setStatus_changesOnly fun g other => ?_
    simp only [List.mem_cons, List.not_mem_nil, or_false, not_or] at other
    obtain ⟨n, z, v⟩ := other
    simp [getFlag_testBits, getFlag_bitBits, n, z, v]

/-! ### What the rule of each mnemonic names -/

/-- The forms of a mnemonic that reads its operand, with the registers and the flags that its rule names. -/
structure ReadRule where
  form : Operand → Option Instr
  regs : List DataReg
  flags : List Flag

/-- R171 to R173 and R220 to R230, in the order of `readForms`. -/
def readRules : List ReadRule :=
  [⟨ldaForm, [.a], [.n, .z]⟩, ⟨adcForm, [.a], [.n, .z, .c, .v]⟩, ⟨sbcForm, [.a], [.n, .z, .c, .v]⟩,
   ⟨andForm, [.a], [.n, .z]⟩, ⟨oraForm, [.a], [.n, .z]⟩, ⟨eorForm, [.a], [.n, .z]⟩,
   ⟨cmpForm, [], [.n, .z, .c]⟩, ⟨cpxForm, [], [.n, .z, .c]⟩, ⟨cpyForm, [], [.n, .z, .c]⟩,
   ⟨bitForm, [], [.n, .z, .v]⟩, ⟨ldxForm, [.x], [.n, .z]⟩, ⟨ldyForm, [.y], [.n, .z]⟩]

theorem map_form_readRules : readRules.map ReadRule.form = readForms := rfl

/-- The rule of each mnemonic names everything that its effect writes. -/
theorem exec_of_readRule {r : ReadRule} (mem : r ∈ readRules) {o : Operand} {i : Instr}
    (form : r.form o = some i) : ∃ f : Byte → State → State,
      (∀ m s, ChangesOnly r.regs r.flags s (f m s)) ∧ ∀ s, exec i s = runRead i.opcode o f s := by
  simp only [readRules, List.mem_cons, List.not_mem_nil, or_false] at mem
  obtain rfl | rfl | rfl | rfl | rfl | rfl | rfl | rfl | rfl | rfl | rfl | rfl := mem
  · exact ⟨loadA, loadA_changesOnly, exec_of_ldaForm form⟩
  · exact ⟨addWithCarry, addWithCarry_changesOnly, exec_of_adcForm form⟩
  · exact ⟨subWithBorrow, subWithBorrow_changesOnly, exec_of_sbcForm form⟩
  · exact ⟨andA, fun m s => loadA_changesOnly (s.a &&& m) s, exec_of_andForm form⟩
  · exact ⟨oraA, fun m s => loadA_changesOnly (s.a ||| m) s, exec_of_oraForm form⟩
  · exact ⟨eorA, fun m s => loadA_changesOnly (s.a ^^^ m) s, exec_of_eorForm form⟩
  · exact ⟨_, fun m s => compareWith_changesOnly s.a m s, exec_of_cmpForm form⟩
  · exact ⟨_, fun m s => compareWith_changesOnly s.x m s, exec_of_cpxForm form⟩
  · exact ⟨_, fun m s => compareWith_changesOnly s.y m s, exec_of_cpyForm form⟩
  · exact ⟨bitEffect o, bitEffect_changesOnly o, exec_of_bitForm form⟩
  · exact ⟨loadX, loadX_changesOnly, exec_of_ldxForm form⟩
  · exact ⟨loadY, loadY_changesOnly, exec_of_ldyForm form⟩

section
variable {r : ReadRule}

theorem form_of_a_mem (mem : r ∈ readRules) (h : .a ∈ r.regs) : r.form ∈ formsToA := by
  revert r
  simp [readRules, formsToA]

theorem form_of_x_mem (mem : r ∈ readRules) (h : .x ∈ r.regs) : r.form = ldxForm := by
  revert r
  simp [readRules]

theorem form_of_y_mem (mem : r ∈ readRules) (h : .y ∈ r.regs) : r.form = ldyForm := by
  revert r
  simp [readRules]

theorem form_of_c_mem (mem : r ∈ readRules) (h : .c ∈ r.flags) :
    r.form ∈ [adcForm, sbcForm, cmpForm, cpxForm, cpyForm] := by
  revert r
  simp [readRules]

theorem form_of_v_mem (mem : r ∈ readRules) (h : .v ∈ r.flags) : r.form ∈ [adcForm, sbcForm, bitForm] := by
  revert r
  simp [readRules]

/-- No rule names `I`, `D`, `B` or `U`. -/
theorem controlFlag_notMem (mem : r ∈ readRules) {g : Flag} (h : g ∈ [.i, .d, .b, .u]) : g ∉ r.flags := by
  revert r g
  simp [readRules]

end

/-! ### What they leave alone -/

theorem ChangesOnly.spend {regs : List DataReg} {flags : List Flag} {s t : State}
    (h : ChangesOnly regs flags s t) (op : Byte) (n : Nat) : ChangesOnly regs flags s (t.spend op n) :=
  ⟨h.machine, h.sp, h.pc, h.total, h.a, h.x, h.y, h.flag⟩

/-- An instruction of a rule makes its one read, then changes only what the rule names. -/
theorem changesOnly_of_readRule {r : ReadRule} (mem : r ∈ readRules) {o : Operand} {i : Instr}
    (form : r.form o = some i) {s t : State} (ran : exec i s = .next t) :
    ChangesOnly r.regs r.flags (readOperand o s).2 t := by
  obtain ⟨f, changes, meaning⟩ := exec_of_readRule mem form
  cases (meaning s).symm.trans ran
  exact (changes _ _).spend i.opcode _

/-- Settles O13: the read leaves the stores and the CPU alone, and the rest is what the rule names. -/
theorem readFrame : Obligations.ReadFrame := by
  rintro o i s t ⟨f, isRead, form⟩ ran
  obtain ⟨r, mem, rfl⟩ := List.mem_map.1 (map_form_readRules ▸ isRead)
  have changes := changesOnly_of_readRule mem form ran
  obtain ⟨⟨sameA, sameX, sameY, sameSp, samePc⟩, sameP, -, total, ram, rom, cart, vram, -, -, snd, -,
    params, -⟩ := readOperand_leaves o s
  obtain ⟨ram', rom', cart', -, vdp', snd', -, -, params', -⟩ := changes.machine
  have flag : ∀ g ∉ r.flags, t.flag g = s.flag g := fun g other =>
    (changes.flag g other).trans (congrArg (getFlag g) sameP)
  have control : ∀ g ∈ [Flag.i, .d, .b, .u], t.flag g = s.flag g := fun g h =>
    flag g (controlFlag_notMem mem h)
  refine ⟨?stores, ?cells, ?x, ?y, ?a, ?control, ?c, ?v⟩
  case stores =>
    exact ⟨changes.sp.trans sameSp, changes.pc.trans samePc, ram'.trans ram, rom'.trans rom,
      cart'.trans cart, (congrArg Vdp.vram vdp').trans vram, snd'.trans snd, params'.trans params,
      changes.total.trans total⟩
  case cells =>
    intro b plain
    exact byteAt_congr plain (ram'.trans ram) (rom'.trans rom) (cart'.trans cart) (params'.trans params)
  case x =>
    intro other
    exact (changes.x fun h => other (form_of_x_mem mem h ▸ form)).trans sameX
  case y =>
    intro other
    exact (changes.y fun h => other (form_of_y_mem mem h ▸ form)).trans sameY
  case a =>
    intro other
    exact (changes.a fun h => other _ (form_of_a_mem mem h) form).trans sameA
  case control =>
    exact ⟨control .i (by decide), control .d (by decide), control .b (by decide), control .u (by decide)⟩
  case c =>
    intro other
    exact flag .c fun h => other _ (form_of_c_mem mem h) form
  case v =>
    intro other
    exact flag .v fun h => other _ (form_of_v_mem mem h) form

end Sys2Proof.Machine
end

section
/-! Register transfers and the stack instructions (R100, R101, R178 to R191). -/

namespace Sys2Proof.Machine

/-- Settles O15: each transfer is one write of a register, with `N` and `Z` but for TXS. -/
theorem transferResult : Obligations.TransferResult :=
  ⟨rfl, fun _ => ⟨rfl, rfl, rfl, rfl, rfl, rfl⟩⟩

/-! ### Pushes -/

/-- A push leaves every plain cell but the one `SP` designates as it reads (R100). -/
theorem push_byteAt {b : Word} {s : State} (x : Byte) (plain : plainAt b s)
    (other : b.toNat ≠ 256 + s.sp.toNat) : byteAt b (push x s) = byteAt b s := by
  have cell : b ≠ stackAddr s.sp := by
    rintro rfl
    exact other (stackAddr_toNat s.sp)
  calc byteAt b (push x s)
    _ = byteAt b (memWrite (stackAddr s.sp) x s) :=
      byteAt_of_sameMachine (t := push x s) (sameMachine_refl (memWrite (stackAddr s.sp) x s)) b
    _ = byteAt b s := (memWrite_sameButCell _ x s).cells b plain cell

theorem byteAt_spend (op : Byte) (n : Nat) (s : State) (b : Word) :
    byteAt b (s.spend op n) = byteAt b s :=
  byteAt_of_sameMachine (t := s.spend op n) (sameMachine_refl s) b

/-- A push instruction pushes its register, PHP the status with bits 4 and 5 set (R185). -/
theorem exec_of_push {i : Instr} {x : Byte} {s : State}
    (h : i = .pha ∧ x = s.a ∨ i = .php ∧ x = s.p ||| 0x30#8 ∨ i = .phx ∧ x = s.x ∨ i = .phy ∧ x = s.y) :
    exec i s = .next ((push x s).spend i.opcode 0) := by
  obtain ⟨rfl, rfl⟩ | ⟨rfl, rfl⟩ | ⟨rfl, rfl⟩ | ⟨rfl, rfl⟩ := h <;> rfl

/-- Settles O16: a push writes the one cell of page one that `SP` designates. -/
theorem pushResult : Obligations.PushResult := by
  refine ⟨rfl, fun i x s pushes => ⟨?result, fun t b ran plain other => ?cells⟩⟩
  case result =>
    rw [exec_of_push pushes, push_eq]
    rfl
  case cells =>
    cases (exec_of_push pushes).symm.trans ran
    calc byteAt b ((push x s).spend i.opcode 0)
      _ = byteAt b (push x s) := byteAt_spend i.opcode 0 _ b
      _ = byteAt b s := push_byteAt x plain other

/-! ### Pulls -/

/-- An effect on the byte pulled and the state after the pull. -/
theorem runPlain_pull (op : Byte) (f : State → Byte × State → State) (s : State) :
    runPlain op (fun t => f t (pull t)) s =
      .next ((f s (Memory.read s.ram (256 + (s.sp + 1).toNat), { s with sp := s.sp + 1 })).spend op 0) := by
  rw [runPlain, pull_eq]

/-- Settles O17: each pull hands its byte to a load or, in PLP, to the status. -/
theorem pullResult : Obligations.PullResult := by
  refine ⟨rfl, fun s => ⟨?pla, ?plx, ?ply, ?plp⟩⟩
  case pla => exact runPlain_pull 0x68#8 (fun _ r => loadA r.1 r.2) s
  case plx => exact runPlain_pull 0xFA#8 (fun _ r => loadX r.1 r.2) s
  case ply => exact runPlain_pull 0x7A#8 (fun _ r => loadY r.1 r.2) s
  case plp => exact runPlain_pull 0x28#8 (fun t r => { r.2 with p := plpStatus r.1 t.p }) s

end Sys2Proof.Machine
end

section
/-! Arithmetic, logic, compares, increments and bit tests (R219 to R238). A bus read leaves the CPU alone, so
every effect works on the registers and the flags from before the read. -/

namespace Sys2Proof.Machine

/-! ### The CPU after a read -/

@[simp] theorem readOperand_a (o : Operand) (s : State) : (readOperand o s).2.a = s.a := by
  obtain ⟨⟨a, -⟩, -⟩ := readOperand_leaves o s
  exact a

@[simp] theorem readOperand_x (o : Operand) (s : State) : (readOperand o s).2.x = s.x := by
  obtain ⟨⟨-, x, -⟩, -⟩ := readOperand_leaves o s
  exact x

@[simp] theorem readOperand_y (o : Operand) (s : State) : (readOperand o s).2.y = s.y := by
  obtain ⟨⟨-, -, y, -⟩, -⟩ := readOperand_leaves o s
  exact y

@[simp] theorem readOperand_p (o : Operand) (s : State) : (readOperand o s).2.p = s.p := by
  obtain ⟨-, p, -⟩ := readOperand_leaves o s
  exact p

@[simp] theorem readOperand_flag (o : Operand) (s : State) (f : Flag) :
    (readOperand o s).2.flag f = s.flag f :=
  congrArg (getFlag f) (readOperand_p o s)

theorem memRead_a (a : Word) (s : State) : (memRead a s).2.a = s.a := by
  obtain ⟨⟨a, -⟩, -⟩ := memRead_leaves a s
  exact a

/-! ### What a read and its effect answer -/

section
variable {o : Operand} {i : Instr} {s : State} {f : Byte → State → State}

/-- A form whose effect makes `u` of what it reads. -/
theorem exec_of_runRead {u : State} (meaning : exec i s = runRead i.opcode o f s)
    (answers : f (readOperand o s).1 (readOperand o s).2 = u)
    (params : u.params = (readOperand o s).2.params) :
    exec i s = .next { u with cyclesRemaining := costOf i s (crossPenalty (o.crossed s)) } := by
  rw [meaning, runRead, answers, spend_eq_costOf (params.trans (readOperand_params o s))]

/-- A form whose effect writes the status alone. -/
theorem exec_of_setStatus {q : Byte} (meaning : exec i s = runRead i.opcode o f s)
    (answers : f (readOperand o s).1 (readOperand o s).2 = { (readOperand o s).2 with p := q }) :
    exec i s = .next { (readOperand o s).2 with
      p := q, cyclesRemaining := costOf i s (crossPenalty (o.crossed s)) } :=
  exec_of_runRead meaning answers rfl

/-- A form whose effect loads `r` into `A`. -/
theorem exec_of_loadA {r : Byte} (meaning : exec i s = runRead i.opcode o f s)
    (answers : f (readOperand o s).1 (readOperand o s).2 = loadA r (readOperand o s).2) :
    exec i s = .next { (readOperand o s).2 with
      a := r, p := nzBits r (readOperand o s).2.p
      cyclesRemaining := costOf i s (crossPenalty (o.crossed s)) } :=
  exec_of_runRead meaning answers rfl

/-- A form whose adder answers `r`. -/
theorem exec_of_putAlu {r : AluResult} (meaning : exec i s = runRead i.opcode o f s)
    (answers : f (readOperand o s).1 (readOperand o s).2 = (readOperand o s).2.putAlu r) :
    exec i s = .next { (readOperand o s).2 with
      a := r.value, p := aluBits r s.p, cyclesRemaining := costOf i s (crossPenalty (o.crossed s)) } := by
  rw [State.putAlu, readOperand_p] at answers
  exact exec_of_runRead meaning answers rfl

end

/-! ### Logic (R224 to R226) -/

/-- Settles O24: each mnemonic loads its own combination of `A`, as it was before the read, with the
operand. -/
theorem logicResult : Obligations.LogicResult := by
  refine ⟨⟨rfl, rfl, rfl⟩, fun o i s => ⟨fun form => ?and, fun form => ?or, fun form => ?xor⟩⟩
  case and => exact exec_of_loadA (exec_of_andForm form s) (by rw [andA, readOperand_a])
  case or => exact exec_of_loadA (exec_of_oraForm form s) (by rw [oraA, readOperand_a])
  case xor => exact exec_of_loadA (exec_of_eorForm form s) (by rw [eorA, readOperand_a])

/-! ### Compares and BIT (R227 to R230) -/

theorem compareBits_flags (r m p : Byte) :
    getFlag .c (compareBits r m p) = decide (m.toNat ≤ r.toNat) ∧
      getFlag .z (compareBits r m p) = decide (r = m) ∧
      getFlag .n (compareBits r m p) = (r - m).getLsbD 7 ∧
      ∀ f : Flag, f ≠ .c → f ≠ .z → f ≠ .n → getFlag f (compareBits r m p) = getFlag f p := by
  refine ⟨?_, ?_, ?_, fun f c z n => ?_⟩
  all_goals simp_all [getFlag_compareBits, isNeg, BitVec.le_def]

theorem compareWith_readOperand (r m : Byte) (o : Operand) (s : State) :
    compareWith r m (readOperand o s).2 = { (readOperand o s).2 with p := compareBits r m s.p } := by
  rw [compareWith, readOperand_p]

/-- Settles O25: the three mnemonics compare different registers, none of which the read changes. -/
theorem compareResult : Obligations.CompareResult := by
  refine ⟨⟨rfl, rfl, rfl⟩, fun o i s => ⟨fun form => ?cmp, fun form => ?cpx, fun form => ?cpy⟩⟩
  case cmp =>
    refine ⟨_, exec_of_setStatus (exec_of_cmpForm form s) ?_, compareBits_flags s.a _ s.p⟩
    rw [readOperand_a, compareWith_readOperand]
  case cpx =>
    refine ⟨_, exec_of_setStatus (exec_of_cpxForm form s) ?_, compareBits_flags s.x _ s.p⟩
    rw [readOperand_x, compareWith_readOperand]
  case cpy =>
    refine ⟨_, exec_of_setStatus (exec_of_cpyForm form s) ?_, compareBits_flags s.y _ s.p⟩
    rw [readOperand_y, compareWith_readOperand]

theorem bitBits_flags (a m p : Byte) :
    getFlag .z (bitBits a m p) = decide (a &&& m = 0) ∧ getFlag .n (bitBits a m p) = m.getLsbD 7 ∧
      getFlag .v (bitBits a m p) = m.getLsbD 6 ∧
      ∀ f : Flag, f ≠ .z → f ≠ .n → f ≠ .v → getFlag f (bitBits a m p) = getFlag f p := by
  refine ⟨?_, ?_, ?_, fun f z n v => ?_⟩
  all_goals simp_all [getFlag_bitBits, isZero]

theorem testBits_flags (a m p : Byte) :
    getFlag .z (testBits a m p) = decide (a &&& m = 0) ∧
      ∀ f : Flag, f ≠ .z → getFlag f (testBits a m p) = getFlag f p :=
  ⟨by simp [getFlag_testBits, isZero], fun f z => by simp [getFlag_testBits, z]⟩

/-- Settles O26: by the kind of the operand, which decides whether its two upper bits are copied. -/
theorem bitTestResult : Obligations.BitTestResult := by
  refine ⟨rfl, fun o i s form => ?_⟩
  have meaning := exec_of_bitForm form s
  cases o with
  | imm v =>
    obtain ⟨zero, others⟩ := testBits_flags s.a v s.p
    exact ⟨_, exec_of_setStatus meaning rfl, zero, others .n (by decide), others .v (by decide),
      fun f z _ _ => others f z⟩
  | mem m =>
    refine ⟨_, exec_of_setStatus meaning rfl, ?_⟩
    rw [readOperand_a, readOperand_p]
    exact bitBits_flags s.a _ s.p

/-! ### Increments, decrements, TRB and TSB (R231 to R238) -/

section
variable {m : MemMode} {i : Instr}

/-- A read-modify-write form whose step makes the byte `r` and the status `q` of what it reads. -/
theorem exec_of_runModify {f : Modify} {s : State} {r q : Byte}
    (meaning : exec i s = runModify i.opcode m f s)
    (answers : f (memRead (eaOf m s) s).1 (memRead (eaOf m s) s).2 = (r, q)) :
    exec i s = .next { memWrite (eaOf m s) r { (memRead (eaOf m s) s).2 with p := q } with
      cyclesRemaining := costOf i s 0 } := by
  have params : (memWrite (eaOf m s) r { (memRead (eaOf m s) s).2 with p := q }).params = s.params :=
    (memWrite_params ..).trans (memRead_sameButCell _ s).params
  simp only [meaning, runModify, answers]
  rw [spend_eq_costOf params]

theorem exec_of_incForm (h : incForm m = some i) (s : State) :
    exec i s = runModify i.opcode m incStep s := by
  cases m <;> cases h <;> rfl

theorem exec_of_decForm (h : decForm m = some i) (s : State) :
    exec i s = runModify i.opcode m decStep s := by
  cases m <;> cases h <;> rfl

theorem exec_of_trbForm (h : trbForm m = some i) (s : State) :
    exec i s = runModify i.opcode m trbStep s := by
  cases m <;> cases h <;> rfl

theorem exec_of_tsbForm (h : tsbForm m = some i) (s : State) :
    exec i s = runModify i.opcode m tsbStep s := by
  cases m <;> cases h <;> rfl

end

/-- Settles O27: a memory form is its step between one read and one write, an accumulator form the same step
on `A`. -/
theorem incDecResult : Obligations.IncDecResult := by
  refine ⟨⟨rfl, rfl, rfl, rfl⟩, fun m i s => ⟨fun form => ?inc, fun form => ?dec, rfl, rfl⟩⟩
  case inc => exact exec_of_runModify (exec_of_incForm form s) rfl
  case dec => exact exec_of_runModify (exec_of_decForm form s) rfl

/-- Settles O28: each index step is one write of its register, with `N` and `Z`. -/
theorem indexStepResult : Obligations.IndexStepResult :=
  ⟨rfl, fun _ => ⟨rfl, rfl, rfl, rfl⟩⟩

/-- Settles O29: both set `Z` from the byte read, whatever they write. -/
theorem testBitsResult : Obligations.TestBitsResult := by
  refine ⟨⟨rfl, rfl⟩, fun m i s => ⟨fun form => ?trb, fun form => ?tsb⟩⟩
  case trb =>
    refine ⟨_, exec_of_runModify (exec_of_trbForm form s) ?_, testBits_flags s.a _ s.p⟩
    rw [trbStep, memRead_a, memRead_p]
  case tsb =>
    refine ⟨_, exec_of_runModify (exec_of_tsbForm form s) ?_, testBits_flags s.a _ s.p⟩
    rw [tsbStep, memRead_a, memRead_p]

/-! ### What an addition or subtraction writes (R220 to R223) -/

theorem aluBits_flags (r : AluResult) (p : Byte) :
    getFlag .c (aluBits r p) = r.c ∧ getFlag .v (aluBits r p) = r.v ∧ getFlag .z (aluBits r p) = r.z ∧
      getFlag .n (aluBits r p) = r.n ∧
      ∀ f : Flag, f ≠ .c → f ≠ .v → f ≠ .z → f ≠ .n → getFlag f (aluBits r p) = getFlag f p := by
  refine ⟨?_, ?_, ?_, ?_, fun f c v z n => ?_⟩
  all_goals simp_all [getFlag_aluBits]

/-- Decimal mode is off (R220, R221, U4). -/
theorem decimal_eq_false {s : State} (h : s.flag .d = false ∨ s.params.decimalImplemented = false) :
    s.decimal = false :=
  Bool.and_eq_false_iff.2 h

/-- Decimal mode is on (R222, R223). -/
theorem decimal_eq_true {s : State} (flag : s.flag .d = true)
    (implemented : s.params.decimalImplemented = true) : s.decimal = true :=
  Bool.and_eq_true_iff.2 ⟨flag, implemented⟩

@[simp] theorem readOperand_decimal (o : Operand) (s : State) :
    (readOperand o s).2.decimal = s.decimal := by
  simp [State.decimal, readOperand_params]

section
variable (o : Operand) {m : Byte} {s : State}

theorem addWithCarry_binary (off : s.decimal = false) :
    addWithCarry m (readOperand o s).2 = (readOperand o s).2.putAlu (adcBinary s.a m (s.flag .c)) := by
  simp [addWithCarry, bcdOpen, adcResult, off]

theorem subWithBorrow_binary (off : s.decimal = false) :
    subWithBorrow m (readOperand o s).2 = (readOperand o s).2.putAlu (sbcBinary s.a m (s.flag .c)) := by
  simp [subWithBorrow, bcdOpen, sbcResult, off]

theorem addWithCarry_decimal (on : s.decimal = true) (digitsA : validBcd s.a = true)
    (digitsM : validBcd m = true) :
    addWithCarry m (readOperand o s).2 = (readOperand o s).2.putAlu (adcDecimal s.a m (s.flag .c)) := by
  simp [addWithCarry, bcdOpen, adcResult, on, digitsA, digitsM]

theorem subWithBorrow_decimal (on : s.decimal = true) (digitsA : validBcd s.a = true)
    (digitsM : validBcd m = true) :
    subWithBorrow m (readOperand o s).2 = (readOperand o s).2.putAlu (sbcDecimal s.a m (s.flag .c)) := by
  simp [subWithBorrow, bcdOpen, sbcResult, on, digitsA, digitsM]

end

/-! ### Binary mode (R220, R221) -/

/-- The sign bit through its mask. -/
theorem getLsbD_seven (x : Byte) : x.getLsbD 7 = decide (x &&& 0x80#8 ≠ 0) := by
  have mask : 0x80#8 = BitVec.twoPow 8 7 := rfl
  rw [mask, BitVec.and_twoPow]
  cases x.getLsbD 7 <;> simp

theorem toNat_xor_ones (m : Byte) : (m ^^^ 0xFF#8).toNat = 255 - m.toNat := by
  have inverted : m ^^^ 0xFF#8 = ~~~m := BitVec.xor_allOnes
  rw [inverted, BitVec.toNat_not]

/-- Adding the inverted operand subtracts it, and one more when `C = 0` (R221). -/
theorem sbcBinary_value (a m : Byte) (c : Bool) :
    (sbcBinary a m c).value = BitVec.ofInt 8 ((a.toNat : Int) - m.toNat - (1 - c.toNat)) := by
  apply BitVec.eq_of_toNat_eq
  rw [sbcBinary, adcBinary_value_toNat, toNat_xor_ones, BitVec.toNat_ofInt]
  omega

/-- The carry of that addition is the absence of a borrow (R221). -/
theorem sbcBinary_c (a m : Byte) (c : Bool) :
    (sbcBinary a m c).c = decide (m.toNat + (1 - c.toNat) ≤ a.toNat) := by
  have carry : c.toNat ≤ 1 := c.toNat_le
  simp only [sbcBinary, adcBinary, toNat_xor_ones, decide_eq_decide]
  omega

/-- Settles O19: the adder's result is the low byte of the 9-bit sum. -/
theorem adcBinaryResult : Obligations.AdcBinaryResult := by
  refine ⟨rfl, fun o i s form mode => ?_⟩
  have answers := addWithCarry_binary o (m := (readOperand o s).1) (decimal_eq_false mode)
  obtain ⟨c, v, z, n, others⟩ := aluBits_flags (adcBinary s.a (readOperand o s).1 (s.flag .c)) s.p
  exact ⟨_, exec_of_putAlu (exec_of_adcForm form s) answers, c, v.trans (getLsbD_seven _), z, n, others⟩

/-- Settles O20: the adder gets the inverted operand, and its carry is the absence of a borrow. -/
theorem sbcBinaryResult : Obligations.SbcBinaryResult := by
  refine ⟨rfl, fun o i s form mode => ⟨sbcBinary_value _ _ _, ?_⟩⟩
  have answers := subWithBorrow_binary o (m := (readOperand o s).1) (decimal_eq_false mode)
  obtain ⟨c, v, z, n, others⟩ := aluBits_flags (sbcBinary s.a (readOperand o s).1 (s.flag .c)) s.p
  exact ⟨_, exec_of_putAlu (exec_of_sbcForm form s) answers, c.trans (sbcBinary_c ..),
    v.trans (getLsbD_seven _), z, n, others⟩

/-! ### Bytes of two decimal digits -/

theorem bcdValue_eq (x : Byte) : bcdValue x = 10 * (x.toNat / 16) + x.toNat % 16 := by
  simp only [bcdValue, highNibble, lowNibble, BitVec.extractLsb'_toNat, Nat.shiftRight_eq_div_pow]
  omega

theorem and_lowMask_toNat (x : Byte) : (x &&& 0x0F#8).toNat = x.toNat % 16 :=
  Nat.and_two_pow_sub_one_eq_mod x.toNat 4

theorem and_highMask_toNat (x : Byte) : (x &&& 0xF0#8).toNat = 16 * (x.toNat / 16) := by
  have shifted : x &&& 0xF0#8 = x >>> 4 <<< 4 := by
    ext k hk
    interval_cases k <;> simp
  simp only [shifted, BitVec.toNat_shiftLeft, BitVec.toNat_ushiftRight, Nat.shiftLeft_eq,
    Nat.shiftRight_eq_div_pow]
  omega

theorem validBcd_iff (x : Byte) : validBcd x = true ↔ x.toNat % 16 ≤ 9 ∧ x.toNat / 16 ≤ 9 := by
  simp only [validBcd, and_lowMask_toNat, and_highMask_toNat, Bool.and_eq_true, decide_eq_true_eq]
  omega

/-- A byte of the two decimal digits `high` and `low`. -/
def HasDigits (x : Byte) (high low : Nat) : Prop := x.toNat = 16 * high + low ∧ high ≤ 9 ∧ low ≤ 9

theorem hasDigits_of_validBcd {x : Byte} (h : validBcd x = true) : ∃ high low, HasDigits x high low := by
  obtain ⟨low, high⟩ := (validBcd_iff x).1 h
  exact ⟨x.toNat / 16, x.toNat % 16, (Nat.div_add_mod ..).symm, high, low⟩

section
variable {x : Byte} {high low : Nat}

theorem HasDigits.validBcd (h : HasDigits x high low) : Machine.validBcd x = true := by
  obtain ⟨byte, high9, low9⟩ := h
  rw [validBcd_iff]
  omega

theorem HasDigits.bcdValue (h : HasDigits x high low) : Machine.bcdValue x = 10 * high + low := by
  obtain ⟨byte, high9, low9⟩ := h
  rw [bcdValue_eq]
  omega

end

/-! ### Decimal mode (R222, R223) -/

section
variable {a m : Byte} {c : Bool} {ah al mh ml low high : Nat}

/-- R222 adds digit by digit: the low digits with the carry, the high digits with the low digits' carry. -/
theorem adcDecimal_digits (ha : HasDigits a ah al) (hm : HasDigits m mh ml)
    (lowSum : low = al + ml + c.toNat) (highSum : high = ah + mh + low / 10) :
    HasDigits (adcDecimal a m c).value (high % 10) (low % 10) ∧
      (adcDecimal a m c).c = decide (10 ≤ high) := by
  obtain ⟨byteA, ah9, al9⟩ := ha
  obtain ⟨byteM, mh9, ml9⟩ := hm
  have carry : c.toNat ≤ 1 := c.toNat_le
  have lowA : (a &&& 0x0F#8).toNat = al := by rw [and_lowMask_toNat]; omega
  have lowM : (m &&& 0x0F#8).toNat = ml := by rw [and_lowMask_toNat]; omega
  have highA : (a &&& 0xF0#8).toNat = 16 * ah := by rw [and_highMask_toNat]; omega
  have highM : (m &&& 0xF0#8).toNat = 16 * mh := by rw [and_highMask_toNat]; omega
  simp only [HasDigits, adcDecimal, lowA, lowM, highA, highM, BitVec.toNat_ofNat, decide_eq_decide,
    Nat.and_two_pow_sub_one_eq_mod _ 4]
  split <;> split <;> omega

/-- R223 subtracts digit by digit: the low digits with the borrow, the high digits with the low digits'
borrow. A digit that borrows stays below the 10 it is lent. -/
theorem sbcDecimal_digits (ha : HasDigits a ah al) (hm : HasDigits m mh ml)
    (lowDiff : low = al + 10 - ml - (1 - c.toNat)) (highDiff : high = ah + 10 - mh - (1 - low / 10)) :
    HasDigits (sbcDecimal a m c).value (high % 10) (low % 10) ∧
      (sbcDecimal a m c).c = decide (10 ≤ high) := by
  obtain ⟨byteA, ah9, al9⟩ := ha
  obtain ⟨byteM, mh9, ml9⟩ := hm
  have carry : c.toNat ≤ 1 := c.toNat_le
  have lowA : (a &&& 0x0F#8).toNat = al := by rw [and_lowMask_toNat]; omega
  have lowM : (m &&& 0x0F#8).toNat = ml := by rw [and_lowMask_toNat]; omega
  have oneBorrow : high / 10 = 0 ∨ high / 10 = 1 := by omega
  simp only [HasDigits, sbcDecimal, lowA, lowM, byteA, byteM, BitVec.toNat_ofInt, decide_eq_decide]
  split <;> split <;> omega

end

/-- Decimal addition is the sum modulo 100, with `C` the decimal carry (R222). -/
theorem adcDecimal_result {a m : Byte} (digitsA : validBcd a = true) (digitsM : validBcd m = true) (c : Bool) :
    validBcd (adcDecimal a m c).value = true ∧
      bcdValue (adcDecimal a m c).value = (bcdValue a + bcdValue m + c.toNat) % 100 ∧
      (adcDecimal a m c).c = decide (100 ≤ bcdValue a + bcdValue m + c.toNat) := by
  obtain ⟨ah, al, ha⟩ := hasDigits_of_validBcd digitsA
  obtain ⟨mh, ml, hm⟩ := hasDigits_of_validBcd digitsM
  obtain ⟨digits, carry⟩ := adcDecimal_digits (c := c) ha hm rfl rfl
  rw [digits.bcdValue, carry, ha.bcdValue, hm.bcdValue, decide_eq_decide]
  exact ⟨digits.validBcd, by omega, by omega⟩

/-- Decimal subtraction is the difference modulo 100, with `C = 0` when a borrow occurred (R223). -/
theorem sbcDecimal_result {a m : Byte} (digitsA : validBcd a = true) (digitsM : validBcd m = true) (c : Bool) :
    validBcd (sbcDecimal a m c).value = true ∧
      bcdValue (sbcDecimal a m c).value = (bcdValue a + 100 - (bcdValue m + (1 - c.toNat))) % 100 ∧
      (sbcDecimal a m c).c = decide (bcdValue m + (1 - c.toNat) ≤ bcdValue a) := by
  obtain ⟨ah, al, ha⟩ := hasDigits_of_validBcd digitsA
  obtain ⟨mh, ml, hm⟩ := hasDigits_of_validBcd digitsM
  obtain ⟨digits, carry⟩ := sbcDecimal_digits (c := c) ha hm rfl rfl
  rw [digits.bcdValue, carry, ha.bcdValue, hm.bcdValue, decide_eq_decide]
  obtain ⟨-, ah9, al9⟩ := ha
  obtain ⟨-, mh9, ml9⟩ := hm
  exact ⟨digits.validBcd, by omega, by omega⟩

/-- The overflow of a decimal subtraction is that of the binary one (R223). -/
theorem sbcDecimal_v (a m : Byte) (c : Bool) : (sbcDecimal a m c).v = (sbcBinary a m c).v := by
  have binary : (sbcBinary a m c).value = BitVec.ofInt 8 ((a.toNat : Int) - m.toNat + c.toNat - 1) := by
    rw [sbcBinary_value, sub_sub_eq_add_sub]
  change _ = ((a ^^^ (sbcBinary a m c).value) &&& (m ^^^ 0xFF#8 ^^^ (sbcBinary a m c).value)).getLsbD 7
  rw [binary]
  rfl

/-- Settles O21: the adder's result is the decimal sum, and its overflow the binary one. -/
theorem decimalAddResult : Obligations.DecimalAddResult := by
  intro o i s form flag implemented digitsA digitsM
  have answers := addWithCarry_decimal o (decimal_eq_true flag implemented) digitsA digitsM
  obtain ⟨digits, value, carry⟩ := adcDecimal_result digitsA digitsM (s.flag .c)
  obtain ⟨c, v, z, n, others⟩ := aluBits_flags (adcDecimal s.a (readOperand o s).1 (s.flag .c)) s.p
  exact ⟨_, _, exec_of_putAlu (exec_of_adcForm form s) answers, digits, value, c.trans carry, v, z, n, others⟩

/-- Settles O22: the adder's result is the decimal difference, and its overflow the binary one. -/
theorem decimalSubResult : Obligations.DecimalSubResult := by
  intro o i s form flag implemented digitsA digitsM
  have answers := subWithBorrow_decimal o (decimal_eq_true flag implemented) digitsA digitsM
  obtain ⟨digits, value, carry⟩ := sbcDecimal_result digitsA digitsM (s.flag .c)
  obtain ⟨c, v, z, n, others⟩ := aluBits_flags (sbcDecimal s.a (readOperand o s).1 (s.flag .c)) s.p
  have borrow : (if s.flag .c then 0 else 1) = 1 - (s.flag .c).toNat := by cases s.flag .c <;> rfl
  rw [← borrow] at value carry
  exact ⟨_, _, exec_of_putAlu (exec_of_sbcForm form s) answers, digits, value, c.trans carry,
    v.trans (sbcDecimal_v ..), z, n, others⟩

end Sys2Proof.Machine
end

section
/-! Shifts and rotates (R269 to R274): a shift is the rotate that takes 0 in, and a rotate by one place doubles
or halves the byte and adds the bit it takes in. -/

namespace Sys2Proof.Machine

/-! ### The byte and the carry of a shift (R270 to R273) -/

theorem aslByte_eq_rolByte (x : Byte) : aslByte x = rolByte false x := by
  simp [aslByte, rolByte]

theorem lsrByte_eq_rorByte (x : Byte) : lsrByte x = rorByte false x := by
  simp [lsrByte, rorByte]

theorem setWidth_ofBool_toNat (c : Bool) : ((BitVec.ofBool c).setWidth 8).toNat = c.toNat := by
  cases c <;> rfl

/-- The place that ROL fills is empty after the shift, so filling it is an addition. -/
theorem rolByte_value (c : Bool) (x : Byte) :
    (rolByte c x).1 = BitVec.ofNat 8 (2 * x.toNat + c.toNat) := by
  have disjoint : (x <<< 1) &&& (BitVec.ofBool c).setWidth 8 = 0#8 := by
    ext k
    cases k <;> simp
  apply BitVec.eq_of_toNat_eq
  rw [rolByte, ← BitVec.add_eq_or_of_and_eq_zero _ _ disjoint, BitVec.toNat_add, BitVec.toNat_shiftLeft,
    setWidth_ofBool_toNat, BitVec.toNat_ofNat, Nat.shiftLeft_eq, Nat.mod_add_mod, pow_one, Nat.mul_comm]

/-- The place that ROR fills is empty after the shift, so filling it is an addition. -/
theorem rorByte_value (c : Bool) (x : Byte) :
    (rorByte c x).1 = BitVec.ofNat 8 (x.toNat / 2 + 128 * c.toNat) := by
  have disjoint : (x >>> 1) &&& ((BitVec.ofBool c).setWidth 8 <<< 7) = 0#8 := by
    ext k bound
    by_cases below : k < 7
    · simp [below]
    · have top : k = 7 := by omega
      simp [top]
  apply BitVec.eq_of_toNat_eq
  rw [rorByte, ← BitVec.add_eq_or_of_and_eq_zero _ _ disjoint, BitVec.toNat_add, BitVec.toNat_ushiftRight,
    BitVec.toNat_shiftLeft, setWidth_ofBool_toNat, BitVec.toNat_ofNat, Nat.shiftRight_eq_div_pow,
    Nat.shiftLeft_eq, Nat.add_mod_mod, pow_one, Nat.mul_comm c.toNat]

theorem aslByte_value (x : Byte) : (aslByte x).1 = BitVec.ofNat 8 (2 * x.toNat + 0) := by
  rw [aslByte_eq_rolByte]
  exact rolByte_value false x

theorem lsrByte_value (x : Byte) : (lsrByte x).1 = BitVec.ofNat 8 (x.toNat / 2 + 128 * 0) := by
  rw [lsrByte_eq_rorByte]
  exact rorByte_value false x

theorem shiftBits_flags (r : Byte) (out : Bool) (p : Byte) :
    getFlag .c (shiftBits r out p) = out ∧ getFlag .z (shiftBits r out p) = decide (r = 0) ∧
      getFlag .n (shiftBits r out p) = r.getLsbD 7 ∧
      ∀ f : Flag, f ≠ .c → f ≠ .z → f ≠ .n → getFlag f (shiftBits r out p) = getFlag f p := by
  refine ⟨?_, ?_, ?_, fun f c z n => ?_⟩
  all_goals simp_all [getFlag_shiftBits, isZero, isNeg]

/-! ### The forms (R274) -/

section
variable {m : MemMode} {i : Instr}

theorem exec_of_aslForm (h : aslForm m = some i) (s : State) :
    exec i s = runModify i.opcode m aslStep s := by
  cases m <;> cases h <;> rfl

theorem exec_of_lsrForm (h : lsrForm m = some i) (s : State) :
    exec i s = runModify i.opcode m lsrStep s := by
  cases m <;> cases h <;> rfl

theorem exec_of_rolForm (h : rolForm m = some i) (s : State) :
    exec i s = runModify i.opcode m rolStep s := by
  cases m <;> cases h <;> rfl

theorem exec_of_rorForm (h : rorForm m = some i) (s : State) :
    exec i s = runModify i.opcode m rorStep s := by
  cases m <;> cases h <;> rfl

/-- A memory form writes the byte that its step makes of the byte read, and sets the flags from before the
read. -/
theorem exec_of_shiftForm {f : Modify} (w : Shifted) {r : Byte} {s : State}
    (meaning : exec i s = runModify i.opcode m f s)
    (answers : f (memRead (eaOf m s) s).1 (memRead (eaOf m s) s).2 = shiftStep w (memRead (eaOf m s) s).2)
    (value : w.1 = r) :
    exec i s = .next { memWrite (eaOf m s) r
        { (memRead (eaOf m s) s).2 with p := shiftBits r w.2 s.p } with
      cyclesRemaining := costOf i s 0 } := by
  rw [shiftStep, memRead_p, value] at answers
  exact exec_of_runModify meaning answers

/-- An accumulator form does the same step on `A`, without a bus access. -/
theorem exec_of_shiftA {f : Modify} (w : Shifted) {r : Byte} {s : State}
    (meaning : exec i s = runPlain i.opcode (onA f) s) (answers : f s.a s = shiftStep w s)
    (value : w.1 = r) :
    exec i s = .next { s with
      a := r, p := shiftBits r w.2 s.p, cyclesRemaining := costOf i s 0 } := by
  rw [meaning, runPlain, onA, answers, shiftStep, value]
  rfl

end

theorem memRead_flag (a : Word) (s : State) (f : Flag) : (memRead a s).2.flag f = s.flag f :=
  congrArg (getFlag f) (memRead_p a s)

/-- Settles O30: each mnemonic is one step, on memory between a read and a write, or on `A`; the carry that a
rotate takes in is the one from before the read. -/
theorem shiftResult : Obligations.ShiftResult := by
  refine ⟨⟨rfl, rfl, rfl, rfl, rfl⟩, fun m i s => ⟨fun form => ?asl, fun form => ?lsr, fun form => ?rol,
    fun form => ?ror, ?aslA, ?lsrA, ?rolA, ?rorA⟩⟩
  case asl =>
    exact ⟨_, shiftBits_flags _ _ s.p,
      exec_of_shiftForm (aslByte _) (exec_of_aslForm form s) rfl (aslByte_value _)⟩
  case lsr =>
    exact ⟨_, shiftBits_flags _ _ s.p,
      exec_of_shiftForm (lsrByte _) (exec_of_lsrForm form s) rfl (lsrByte_value _)⟩
  case rol =>
    refine ⟨_, shiftBits_flags _ _ s.p,
      exec_of_shiftForm (rolByte _ _) (exec_of_rolForm form s) ?_ (rolByte_value _ _)⟩
    rw [rolStep, memRead_flag]
  case ror =>
    refine ⟨_, shiftBits_flags _ _ s.p,
      exec_of_shiftForm (rorByte _ _) (exec_of_rorForm form s) ?_ (rorByte_value _ _)⟩
    rw [rorStep, memRead_flag]
  case aslA => exact ⟨_, shiftBits_flags _ _ s.p, exec_of_shiftA (aslByte s.a) rfl rfl (aslByte_value s.a)⟩
  case lsrA => exact ⟨_, shiftBits_flags _ _ s.p, exec_of_shiftA (lsrByte s.a) rfl rfl (lsrByte_value s.a)⟩
  case rolA => exact ⟨_, shiftBits_flags _ _ s.p, exec_of_shiftA (rolByte _ s.a) rfl rfl (rolByte_value _ s.a)⟩
  case rorA => exact ⟨_, shiftBits_flags _ _ s.p, exec_of_shiftA (rorByte _ s.a) rfl rfl (rorByte_value _ s.a)⟩

end Sys2Proof.Machine
end

section
/-! Jumps, subroutines and branches (R290 to R303). JSR and RTS only meet the stack, which lies in RAM, so what
they do is an equation of the state; JMP through a pointer makes two reads, wherever the pointer lies. -/

namespace Sys2Proof.Machine

/-- What an instruction without an operand answers, when its effect leaves the parameters alone (R131). -/
theorem exec_of_runPlain {i : Instr} {f : State → State} {s : State}
    (meaning : exec i s = runPlain i.opcode f s) (params : (f s).params = s.params) :
    exec i s = .next { f s with cyclesRemaining := costOf i s 0 } := by
  rw [meaning, runPlain, spend_eq_costOf params]

/-! ### JMP (R290) -/

theorem memRead_params (a : Word) (s : State) : (memRead a s).2.params = s.params := by
  obtain ⟨-, -, -, -, -, -, -, -, -, -, -, -, params, -⟩ := memRead_leaves a s
  exact params

theorem jumpVia_params (ptr : Word) (s : State) : (jumpVia ptr s).params = s.params :=
  (memRead_params (ptr + 1) _).trans (memRead_params ptr s)

/-- Settles O31: the indirect forms go to the word at their pointer, whose two reads follow each other. -/
theorem jumpResult : Obligations.JumpResult := by
  refine fun a s => ⟨?abs, ?ind, ?absIndX⟩
  case abs => rfl
  case ind => exact exec_of_runPlain rfl (jumpVia_params a s)
  case absIndX =>
    exact exec_of_runPlain (f := fun t => jumpVia (a + zext16 t.x) t) rfl (jumpVia_params _ s)

/-! ### JSR and RTS (R291, R292) -/

/-- JSR writes the two cells of page one from `SP` down. -/
theorem callTo_eq (a : Word) (s : State) :
    callTo a s = { s with
      ram := Memory.write (Memory.write s.ram (256 + s.sp.toNat) (hi (s.pc - 1)))
        (256 + (s.sp - 1).toNat) (lo (s.pc - 1))
      sp := s.sp - 2
      pc := a } := by
  have down : s.sp - 1 - 1 = s.sp - 2 := by bv_omega
  simp only [callTo, push_eq, down]

/-- RTS reads the two cells of page one above `SP`. -/
theorem returnFromCall_eq (s : State) :
    returnFromCall s = { s with
      sp := s.sp + 2
      pc := word (Memory.read s.ram (256 + (s.sp + 2).toNat))
        (Memory.read s.ram (256 + (s.sp + 1).toNat)) + 1 } := by
  have up : s.sp + 1 + 1 = s.sp + 2 := by bv_omega
  simp only [returnFromCall, pull_eq, up]

theorem exec_jsr (a : Word) (s : State) :
    exec (.jsr a) s = .next ((callTo a s).spend (Instr.jsr a).opcode 0) := rfl

theorem exec_rts (s : State) : exec .rts s = .next ((returnFromCall s).spend Instr.rts.opcode 0) := rfl

theorem push_plainAt {b : Word} {s : State} (x : Byte) (plain : plainAt b s) : plainAt b (push x s) := by
  rwa [plainAt, push_eq]

/-- A call leaves every plain cell but the two it pushes to as it reads. -/
theorem callTo_byteAt {b : Word} {s : State} (a : Word) (plain : plainAt b s)
    (first : b.toNat ≠ 256 + s.sp.toNat) (second : b.toNat ≠ 256 + (s.sp - 1).toNat) :
    byteAt b (callTo a s) = byteAt b s := by
  calc byteAt b (callTo a s)
    _ = byteAt b (push (lo (s.pc - 1)) (push (hi (s.pc - 1)) s)) :=
      byteAt_of_sameMachine (t := callTo a s) (sameMachine_refl (push _ _)) b
    _ = byteAt b (push (hi (s.pc - 1)) s) := push_byteAt _ (push_plainAt _ plain) second
    _ = byteAt b s := push_byteAt _ plain first

/-- A return pulls from the two cells that the call before it pushed to, which differ even when `SP` wraps. -/
theorem returnFromCall_callTo {s : State} (wf : Memory.wf s.ram = true) (a : Word) (op : Byte) (n : Nat) :
    returnFromCall ((callTo a s).spend op n) = { (callTo a s).spend op n with sp := s.sp, pc := s.pc } := by
  have top : s.sp - 2 + 2 = s.sp := BitVec.sub_add_cancel ..
  have below : s.sp - 2 + 1 = s.sp - 1 := by bv_omega
  have apart : 256 + s.sp.toNat ≠ 256 + (s.sp - 1).toNat := by bv_omega
  simp only [returnFromCall_eq, State.spend_ram, State.spend_sp, callTo_eq, top, below,
    Memory.read_write_ne _ _ apart, Memory.read_write_self wf, Memory.read_write_self (Memory.wf_write wf ..),
    word_hi_lo, BitVec.sub_add_cancel]

/-- Settles O32: a call and a return are two pushes and two pulls of page one, and the pulls find the bytes
that the pushes left. -/
theorem callReturnResult : Obligations.CallReturnResult := by
  refine ⟨⟨rfl, fun _ => rfl⟩, fun a s => ⟨?jsr, fun t b ran plain first second => ?frame, ?rts,
    fun t u wf called returned => ?roundTrip⟩⟩
  case jsr =>
    rw [exec_jsr, callTo_eq]
    rfl
  case frame =>
    cases (exec_jsr a s).symm.trans ran
    calc byteAt b ((callTo a s).spend (Instr.jsr a).opcode 0)
      _ = byteAt b (callTo a s) := byteAt_spend _ 0 _ b
      _ = byteAt b s := callTo_byteAt a plain first second
  case rts =>
    rw [exec_rts, returnFromCall_eq]
    rfl
  case roundTrip =>
    cases (exec_jsr a s).symm.trans called
    cases (exec_rts _).symm.trans returned
    rw [returnFromCall_callTo wf, callTo_eq]
    exact ⟨rfl, rfl, rfl, rfl, rfl, rfl⟩

/-! ### Branches (R293 to R302) -/

/-- A taken branch costs one cycle more, and another when it leaves the page (R162). -/
theorem branchPenalty_pageDiffers (taken : Bool) (target pc : Word) :
    branchPenalty taken (pageDiffers target pc) =
      if taken then (if hi target = hi pc then 1 else 2) else 0 := by
  simp [branchPenalty, pageDiffers]

/-- What a branch answers. -/
theorem exec_of_runBranch {i : Instr} {d : Byte} {cond : Bool} {s : State}
    (meaning : exec i s = runBranch i.opcode d cond s) :
    exec i s = .next { s with
      pc := if cond then branchTarget d s.pc else s.pc
      cyclesRemaining := costOf i s
        (if cond then (if hi (branchTarget d s.pc) = hi s.pc then 1 else 2) else 0) } := by
  rw [meaning, runBranch, branchPenalty_pageDiffers]
  rfl

/-- Settles O33: each branch is the one shape under the condition that its mnemonic names. -/
theorem branchResult : Obligations.BranchResult := fun _ _ =>
  ⟨exec_of_runBranch rfl, exec_of_runBranch rfl, exec_of_runBranch rfl, exec_of_runBranch rfl,
    exec_of_runBranch rfl, exec_of_runBranch rfl, exec_of_runBranch rfl, exec_of_runBranch rfl,
    exec_of_runBranch rfl⟩

end Sys2Proof.Machine
end

section
/-! Flag instructions, no-operations and the return from a trap (R320 to R330). -/

namespace Sys2Proof.Machine

/-! ### Flag instructions and no-operations (R320 to R327, R330) -/

/-- An instruction whose effect is to write one flag leaves the other flags, and the rest of the machine. -/
theorem exec_of_setFlag {i : Instr} {g : Flag} {on : Bool} {s : State}
    (meaning : exec i s = runPlain i.opcode (State.setFlag g on) s) :
    ∃ q, exec i s = .next { s with p := q, cyclesRemaining := costOf i s 0 } ∧
      getFlag g q = on ∧ ∀ f : Flag, f ≠ g → getFlag f q = s.flag f := by
  refine ⟨putFlag g on s.p, exec_of_runPlain meaning rfl, ?written, fun f other => ?kept⟩
  case written => rw [getFlag_putFlag, if_pos rfl]
  case kept =>
    rw [getFlag_putFlag, if_neg other]
    rfl

/-- An undefined opcode costs one cycle (R330). -/
theorem costOf_of_undefined {i : Instr} (h : i ∈ undefinedInstrs) {s : State} (params : ParamsOk s) :
    costOf i s 0 = 1 := by
  obtain ⟨-, undefinedCost⟩ := baseCycles_of_wf params
  exact undefinedCost i.opcode (opcode_of_undefined h)

/-- Settles O34: a flag instruction is one write of a flag, and a no-operation only spends its cost. -/
theorem flagAndNoOperationResult : Obligations.FlagAndNoOperationResult := by
  refine ⟨rfl, fun s => ⟨?clc, ?sec, ?cli, ?sei, ?cld, ?sed, ?clv, ?nop, fun i undefined => ?undefined⟩⟩
  case clc | sec | cli | sei | cld | sed | clv => exact exec_of_setFlag rfl
  case nop => exact exec_of_runPlain (f := id) rfl rfl
  case undefined => exact ⟨exec_of_undefined undefined s, costOf_of_undefined undefined⟩

/-! ### RTI (R329) -/

theorem trapReturn_params (s : State) : (trapReturn s).params = s.params := by
  rw [trapReturn_eq]

/-- Settles O37: the return from a trap is three pulls of page one. -/
theorem returnFromTrapResult : Obligations.ReturnFromTrapResult := by
  intro s
  have second : s.sp + 1 + 1 = s.sp + 2 := by bv_omega
  have third : s.sp + 2 + 1 = s.sp + 3 := by bv_omega
  rw [exec_of_runPlain (f := trapReturn) rfl (trapReturn_params s), trapReturn_eq, second, third]
  rfl

end Sys2Proof.Machine
end

section
/-! The two ports of the video card (R350, R363 to R367): every address of its window is one of the two, a control
write has four cases, and a set-up of the address pointer is two of them. -/

namespace Sys2Proof.Machine

/-! ### The window (R350) -/

/-- Every address of the window of the video card is a port: an even one data, an odd one control and status. -/
theorem decodeAddr_video {a : Word} (cart : Bool) (h : 0x9C00 ≤ a.toNat ∧ a.toNat < 0xA000) :
    decodeAddr cart a = .video (decide (a.toNat % 2 = 1)) := by
  obtain ⟨-, -, -, -, -, -, -, -, video, -⟩ := addressMap cart a
  exact video h

section
variable {a : Word} {odd : Bool} {s : State}

theorem memRead_video (h : decodeAddr s.params.cartPresent a = .video odd) :
    memRead a s = ((s.vdp.readPort odd).1, { s with vdp := (s.vdp.readPort odd).2 }) := by
  simp only [memRead, h]

theorem memWrite_video (x : Byte) (h : decodeAddr s.params.cartPresent a = .video odd) :
    memWrite a x s = { s with vdp := s.vdp.writePort odd x } := by
  simp only [memWrite, h]

end

/-! ### The control port (R363) -/

section
variable {d : Vdp} {x : Byte}

theorem Vdp.writeControl_first (x : Byte) (h : d.latched = false) :
    d.writeControl x = { d with latchByte := x, latched := true } := by
  simp [Vdp.writeControl, h]

theorem Vdp.writeControl_register (h : d.latched = true) (bit7 : x.getLsbD 7 = true) :
    d.writeControl x =
      { d with latched := false, regs := d.regs.set (x.extractLsb' 0 3) d.latchByte } := by
  simp only [Vdp.writeControl, h, bit7, if_true]

theorem Vdp.writeControl_writeSetUp (h : d.latched = true) (bit7 : x.getLsbD 7 = false)
    (bit6 : x.getLsbD 6 = true) :
    d.writeControl x = { d with latched := false, addr := x.extractLsb' 0 6 ++ d.latchByte } := by
  simp only [Vdp.writeControl, h, bit7, bit6, if_true, Bool.false_eq_true, if_false]

theorem Vdp.writeControl_readSetUp (h : d.latched = true) (bit7 : x.getLsbD 7 = false)
    (bit6 : x.getLsbD 6 = false) :
    d.writeControl x = { d with
      latched := false
      addr := (x.extractLsb' 0 6 ++ d.latchByte : BitVec 14) + 1
      readbuf := Memory.read d.vram (x.extractLsb' 0 6 ++ d.latchByte : BitVec 14).toNat } := by
  simp only [Vdp.writeControl, h, bit7, bit6, if_true, Bool.false_eq_true, if_false]
  rfl

end

/-! ### Setting the address pointer up (R367) -/

/-- The low byte of a VRAM address, which a set-up writes first. -/
def setUpLow (at0 : BitVec 14) : Byte := at0.extractLsb' 0 8

/-- The high six bits of a VRAM address, which a set-up writes second. -/
def setUpHigh (at0 : BitVec 14) : Byte := (at0.extractLsb' 8 6).setWidth 8

theorem setUpHigh_bits (at0 : BitVec 14) :
    (setUpHigh at0).getLsbD 7 = false ∧ (setUpHigh at0).getLsbD 6 = false := by
  simp [setUpHigh]

theorem setUpHigh_marked_bits (at0 : BitVec 14) :
    (setUpHigh at0 ||| 0x40#8).getLsbD 7 = false ∧ (setUpHigh at0 ||| 0x40#8).getLsbD 6 = true := by
  simp [setUpHigh]

/-- The two bytes of a set-up hold the address, whatever mark bit 6 of the second carries. -/
theorem setUp_address (at0 : BitVec 14) {mark : Byte} (unmarked : mark.extractLsb' 0 6 = 0) :
    ((setUpHigh at0 ||| mark).extractLsb' 0 6 ++ setUpLow at0 : BitVec 14) = at0 := by
  have high : (setUpHigh at0 ||| mark).extractLsb' 0 6 = at0.extractLsb' 8 6 := by
    rw [BitVec.extractLsb'_or, unmarked]
    ext k hk
    simp [setUpHigh, hk]
    omega
  rw [high]
  ext k hk
  simp only [setUpLow, BitVec.getElem_append, BitVec.getElem_extractLsb']
  split
  · simp [BitVec.getLsbD_eq_getElem hk]
  · rw [show 8 + (k - 8) = k by omega]
    simp [BitVec.getLsbD_eq_getElem hk]

section
variable {d : Vdp}

theorem Vdp.writeSetUp_eq (at0 : BitVec 14) (h : d.latched = false) :
    (d.writeControl (setUpLow at0)).writeControl (setUpHigh at0 ||| 0x40#8) =
      { d with latchByte := setUpLow at0, latched := false, addr := at0 } := by
  obtain ⟨bit7, bit6⟩ := setUpHigh_marked_bits at0
  rw [writeControl_first _ h, writeControl_writeSetUp rfl bit7 bit6]
  simp only [setUp_address at0 (mark := 0x40#8) rfl]

theorem Vdp.readSetUp_eq (at0 : BitVec 14) (h : d.latched = false) :
    (d.writeControl (setUpLow at0)).writeControl (setUpHigh at0) =
      { d with
        latchByte := setUpLow at0, latched := false, addr := at0 + 1
        readbuf := Memory.read d.vram at0.toNat } := by
  obtain ⟨bit7, bit6⟩ := setUpHigh_bits at0
  have address := setUp_address at0 (mark := 0#8) rfl
  rw [BitVec.or_zero] at address
  rw [writeControl_first _ h, writeControl_readSetUp rfl bit7 bit6]
  simp only [address]

/-- The byte after a read set-up is the one at the address: it is in the read-ahead buffer. -/
theorem Vdp.readData_readSetUp (at0 : BitVec 14) (h : d.latched = false) :
    ((d.writeControl (setUpLow at0)).writeControl (setUpHigh at0)).readData.1 =
      Memory.read d.vram at0.toNat := by
  rw [readSetUp_eq at0 h]
  rfl

/-- After a write set-up the read-ahead buffer is stale: the byte at the address is the second one read. -/
theorem Vdp.readData_writeSetUp (at0 : BitVec 14) (h : d.latched = false) :
    ((d.writeControl (setUpLow at0)).writeControl (setUpHigh at0 ||| 0x40#8)).readData.2.readData.1 =
      Memory.read d.vram at0.toNat := by
  rw [writeSetUp_eq at0 h]
  rfl

/-- A data write after a write set-up stores its byte at the address. -/
theorem Vdp.vram_writeData_writeSetUp (at0 : BitVec 14) (x : Byte) (h : d.latched = false)
    (wf : Memory.wf d.vram = true) :
    Memory.read (((d.writeControl (setUpLow at0)).writeControl (setUpHigh at0 ||| 0x40#8)).writeData x).vram
      at0.toNat = x := by
  rw [writeSetUp_eq at0 h]
  exact Memory.read_write_self wf _ x

end

/-- Settles O53: an address of the window is one of the two ports, and a set-up after a write finds the byte that
the write left at the address. -/
theorem videoPorts : Obligations.VideoPorts := by
  intro a x s first last
  have decoded := decodeAddr_video s.params.cartPresent ⟨first, last⟩
  refine ⟨fun even => ?data, fun odd => ?control, fun at0 unlatched wf => ?readBack⟩
  case data =>
    rw [even] at decoded
    exact ⟨memRead_video decoded, memWrite_video x decoded⟩
  case control =>
    rw [odd] at decoded
    have written : memWrite a x s = { s with vdp := s.vdp.writeControl x } := memWrite_video x decoded
    rw [written]
    refine ⟨memRead_video decoded, fun unlatched => ?latch, fun latched bit7 => ?register,
      fun latched bit7 bit6 => ?writeSetUp, fun latched bit7 bit6 => ?readSetUp⟩
    case latch => rw [Vdp.writeControl_first x unlatched]
    case register => rw [Vdp.writeControl_register latched bit7]
    case writeSetUp => rw [Vdp.writeControl_writeSetUp latched bit7 bit6]
    case readSetUp => rw [Vdp.writeControl_readSetUp latched bit7 bit6]
  case readBack =>
    have stored := Vdp.vram_writeData_writeSetUp at0 x unlatched wf
    exact ⟨(Vdp.readData_readSetUp at0 rfl).trans stored, (Vdp.readData_writeSetUp at0 rfl).trans stored⟩

end Sys2Proof.Machine
end

section
/-! One scanline (R380 to R400): which row of the picture it draws, what it does to the status, and the pixels and
flags of the lines whose content the rules give outright. -/

namespace Sys2Proof.Machine

/-! ### Rows and pixels of a picture (R351) -/

section
variable {f : Frame}

theorem Frame.setRow_fill (f : Frame) (y : Nat) (line : List Rgba) : (f.setRow y line).fill = f.fill := by
  unfold Frame.setRow
  split <;> rfl

theorem Frame.row_setRow_self (wf : f.wf = true) (y : Nat) (line : List Rgba) :
    (f.setRow y line).row y = line := by
  obtain ⟨sorted, -⟩ := f.wf_iff.1 wf
  unfold Frame.row Frame.setRow
  split
  · next filled => simp [sparseFind_erase_self sorted, filled]
  · simp [sparseFind_insert_self]

theorem Frame.row_setRow_ne (f : Frame) {y z : Nat} (line : List Rgba) (h : z ≠ y) :
    (f.setRow y line).row z = f.row z := by
  unfold Frame.row Frame.setRow
  split
  · simp [sparseFind_erase_ne _ h]
  · simp [sparseFind_insert_ne _ _ h]

theorem Frame.pixel_setRow_self (wf : f.wf = true) {x y : Nat} (hx : x < activeColumns) (hy : y < activeRows)
    (line : List Rgba) : (f.setRow y line).pixel (32 + x) (24 + y) = line.getD x f.fill := by
  simp only [activeColumns, activeRows] at hx hy
  have active : 32 ≤ 32 + x ∧ 32 + x < 288 ∧ 24 ≤ 24 + y ∧ 24 + y < 216 := by omega
  rw [Frame.pixel, if_pos active, Nat.add_sub_cancel_left, Nat.add_sub_cancel_left, row_setRow_self wf,
    setRow_fill]

/-- Putting a row leaves every pixel outside it, borders included. -/
theorem Frame.pixel_setRow_of_outside (f : Frame) {x z y : Nat} (line : List Rgba)
    (outside : ¬(32 ≤ x ∧ x < 288 ∧ z = 24 + y)) : (f.setRow y line).pixel x z = f.pixel x z := by
  unfold Frame.pixel
  rw [setRow_fill]
  split
  · rw [row_setRow_ne f line (by omega)]
  · rfl

theorem Frame.pixel_blank (c : Rgba) (x y : Nat) : (⟨c, []⟩ : Frame).pixel x y = c := by
  have row (z : Nat) : (⟨c, []⟩ : Frame).row z = List.replicate activeColumns c := rfl
  unfold Frame.pixel
  split
  · rw [row]
    exact List.getElem?_getD_replicate_default_eq ..
  · rfl

end

/-! ### The stages of a scanline (R380, R381, R389) -/

theorem Vdp.Redraws.regs {d e : Vdp} (h : d.Redraws e) : e.regs = d.regs := by rw [h.1]

/-- The card when a scanline is drawn: line 0 has started a frame. -/
def Vdp.opened (p : Params) (n : Nat) (d : Vdp) : Vdp := if n = 0 then d.startFrame p else d

/-- The card after the drawing of a scanline, before the interrupt of line 191. -/
def Vdp.rendered (p : Params) (n : Nat) (d : Vdp) : Vdp :=
  if n < activeRows then (d.opened p n).renderLine p n else d.opened p n

theorem Vdp.processScanline_eq (p : Params) (n : Nat) (d : Vdp) :
    d.processScanline p n =
      if n = 191 ∧ (d.rendered p n).regs.ie = true
      then (true, { d.rendered p n with status := (d.rendered p n).status ||| 0x80#8 })
      else (false, d.rendered p n) := rfl

section
variable (p : Params) (n : Nat) (d : Vdp)

theorem Vdp.opened_regs : (d.opened p n).regs = d.regs := by
  unfold Vdp.opened
  split <;> rfl

theorem Vdp.opened_graphics1Line (y : Nat) : (d.opened p n).graphics1Line y = d.graphics1Line y := by
  unfold Vdp.opened
  split <;> rfl

theorem Vdp.opened_spriteAttr (s k : Nat) : (d.opened p n).spriteAttr s k = d.spriteAttr s k := by
  unfold Vdp.opened
  split <;> rfl

theorem Vdp.opened_status : (d.opened p n).status = if n = 0 then 0 else d.status := by
  unfold Vdp.opened
  split <;> rfl

theorem Vdp.opened_frame_wf (wf : d.frame.wf = true) : (d.opened p n).frame.wf = true := by
  unfold Vdp.opened
  split
  · exact Frame.wf_fill _
  · exact wf

theorem Vdp.rendered_regs : (d.rendered p n).regs = d.regs := by
  rw [← d.opened_regs p n]
  unfold Vdp.rendered
  split
  · next active => exact ((d.opened p n).renderLine_redraws p active).regs
  · rfl

theorem Vdp.processScanline_pulse :
    (d.processScanline p n).1 = true ↔ n = 191 ∧ d.regs.ie = true := by
  rw [processScanline_eq, rendered_regs]
  split
  · next pulses => simpa using pulses
  · next silent => simpa using silent

theorem Vdp.processScanline_frame : (d.processScanline p n).2.frame = (d.rendered p n).frame := by
  rw [processScanline_eq]
  split <;> rfl

theorem Vdp.processScanline_status :
    (d.processScanline p n).2.status =
      if n = 191 ∧ d.regs.ie = true then (d.rendered p n).status ||| 0x80#8 else (d.rendered p n).status := by
  rw [processScanline_eq, rendered_regs]
  split <;> rfl

end

theorem Vdp.rendered_active {p : Params} {n : Nat} (d : Vdp) (h : n < activeRows) :
    d.rendered p n = (d.opened p n).renderLine p n := if_pos h

/-- From line 192 on a scanline does nothing (R387). -/
theorem Vdp.processScanline_past (p : Params) {n : Nat} (d : Vdp) (h : activeRows ≤ n) :
    d.processScanline p n = (false, d) := by
  simp only [activeRows] at h
  have opened : d.opened p n = d := if_neg (by omega)
  have rendered : d.rendered p n = d := (if_neg (Nat.not_lt.2 h)).trans opened
  rw [processScanline_eq, rendered, if_neg (by omega)]

/-! ### What drawing a line does to the picture -/

section
variable {p : Params} {y : Nat} {d : Vdp}

/-- An active line puts its own row of the picture and no other. -/
theorem Vdp.renderLine_frame (p : Params) (y : Nat) (d : Vdp) :
    ∃ line, (d.renderLine p y).frame = d.frame.setRow y line := by
  unfold Vdp.renderLine
  split
  · split <;> exact ⟨_, rfl⟩
  · exact ⟨_, rfl⟩

theorem Vdp.renderLine_off (p : Params) (y : Nat) (off : d.regs.displayOn = false) :
    d.renderLine p y = d.blit p y (List.replicate activeColumns d.regs.backdrop) := by
  simp only [Vdp.renderLine, off, Bool.false_eq_true, if_false]

theorem Vdp.renderLine_graphics1 (p : Params) (y : Nat) (on : d.regs.displayOn = true)
    (mode : d.regs.mode = .graphics1) :
    d.renderLine p y =
      ({ d with status := (d.sprites y (d.graphics1Line y)).status } : Vdp).blit p y
        (d.sprites y (d.graphics1Line y)).line := by
  simp only [Vdp.renderLine, Vdp.background, on, mode, if_true]

theorem Vdp.rendered_off (p : Params) (off : d.regs.displayOn = false) (active : y < activeRows) :
    d.rendered p y = (d.opened p y).blit p y (List.replicate activeColumns d.regs.backdrop) := by
  have regs := d.opened_regs p y
  rw [d.rendered_active active, renderLine_off p y (by rwa [regs]), regs]

theorem Vdp.rendered_off_status (p : Params) (y : Nat) (off : d.regs.displayOn = false) :
    (d.rendered p y).status = (d.opened p y).status := by
  by_cases active : y < activeRows
  · rw [rendered_off p off active]
    rfl
  · rw [rendered, if_neg active]

/-- A pixel of a blit line shows the palette's colour of its index, and index 0 the backdrop (R388). -/
theorem Vdp.pixel_blit (p : Params) {x : Nat} {pixels : LineBuf} {i : Colour} (wf : d.frame.wf = true)
    (hx : x < activeColumns) (hy : y < activeRows) (index : pixels[x]? = some i) :
    (d.blit p y pixels).frame.pixel (32 + x) (24 + y) =
      paletteColour p (if i = 0 then d.regs.backdrop else i) := by
  unfold Vdp.blit
  rw [Frame.pixel_setRow_self wf hx hy, List.getD_eq_getElem?_getD, List.getElem?_map, index]
  rfl

end

/-! ### What drawing a line does to the status (R391, R392, R398, R399) -/

/-- What the sprites of a line may do to the status: bit 7 stays, a collision flag that is set stays, and once the
flag of a fifth sprite is set it stays with its index. -/
structure StatusKept (old new : Byte) : Prop where
  interrupt : new.getLsbD 7 = old.getLsbD 7
  collision : old.getLsbD 5 = true → new.getLsbD 5 = true
  fifth : old.getLsbD 6 = true → new &&& 0x5F#8 = old &&& 0x5F#8

theorem StatusKept.refl (x : Byte) : StatusKept x x := ⟨rfl, id, fun _ => rfl⟩

/-- The bits of `0x5F` hold the flag of a fifth sprite. -/
theorem getLsbD_6_of_masked {a b : Byte} (h : a &&& 0x5F#8 = b &&& 0x5F#8) : a.getLsbD 6 = b.getLsbD 6 := by
  simpa using congrArg (·.getLsbD 6) h

theorem StatusKept.trans {a b c : Byte} (h : StatusKept a b) (k : StatusKept b c) : StatusKept a c where
  interrupt := k.interrupt.trans h.interrupt
  collision := k.collision ∘ h.collision
  fifth flag := (k.fifth ((getLsbD_6_of_masked (h.fifth flag)).trans flag)).trans (h.fifth flag)

/-- A sprite's number is below bit 7 of the status. -/
theorem spriteNumber_bit7 {s : Nat} (hs : s < 32) : (BitVec.ofNat 8 s)[7] = false := by
  have small : s < 2 ^ 7 := by omega
  rw [← BitVec.getLsbD_eq_getElem, BitVec.getLsbD_ofNat, Nat.testBit_lt_two_pow small, Bool.and_false]

theorem storeSentinel_kept {s : Nat} (hs : s < 32) (x : Byte) : StatusKept x (storeSentinel s x) := by
  unfold storeSentinel
  split
  · exact .refl x
  · next clear => exact ⟨by simp [spriteNumber_bit7 hs], by simp +contextual, (absurd · clear)⟩

theorem storeFifth_kept {s : Nat} (hs : s < 32) (x : Byte) : StatusKept x (storeFifth s x) := by
  unfold storeFifth
  split
  · exact .refl x
  · next clear => exact ⟨by simp [spriteNumber_bit7 hs], by simp +contextual, (absurd · clear)⟩

/-- What drawing a sprite may do to the status: set the collision flag. -/
def Collides (old new : Byte) : Prop := new = old ∨ new = old ||| 0x20#8

theorem Collides.trans {a b c : Byte} (h : Collides a b) (k : Collides b c) : Collides a c := by
  obtain rfl | rfl := h
  · exact k
  · obtain rfl | rfl := k
    · exact .inr rfl
    · exact .inr (by rw [BitVec.or_assoc, BitVec.or_self])

theorem Collides.kept {a b : Byte} (h : Collides a b) : StatusKept a b := by
  obtain rfl | rfl := h
  · exact .refl _
  · exact ⟨by simp, by simp, fun _ => by rw [BitVec.and_or_distrib_right]; simp⟩

theorem Collides.getLsbD_6 {a b : Byte} (h : Collides a b) : b.getLsbD 6 = a.getLsbD 6 := by
  obtain rfl | rfl := h <;> simp

section
variable (d : Vdp)

theorem SpriteScan.plot_collides (col : Colour) (sx : Nat) (sc : SpriteScan) :
    Collides sc.status (sc.plot col sx).status := by
  simp only [SpriteScan.plot]
  split
  · exact .inr rfl
  · exact .inl rfl

theorem Vdp.drawPixel_collides (s prow i : Nat) (sc : SpriteScan) :
    Collides sc.status (d.drawPixel s prow i sc).status := by
  simp only [Vdp.drawPixel]
  split
  · exact .inl rfl
  · split
    · exact SpriteScan.plot_collides ..
    · exact .inl rfl

theorem Vdp.drawSprite_collides (s prow : Nat) (sc : SpriteScan) :
    Collides sc.status (d.drawSprite s prow sc).status := by
  unfold Vdp.drawSprite
  generalize List.range (d.regs.spriteSize * (1 + d.regs.mag)) = columns
  induction columns generalizing sc with
  | nil => exact .inl rfl
  | cons i is ih => exact (d.drawPixel_collides s prow i sc).trans (ih _)

theorem Vdp.scanSprites_kept (y : Nat) {n s : Nat} (sc : SpriteScan) (entries : s + n ≤ 32) :
    StatusKept sc.status (d.scanSprites y n s sc).status := by
  induction n generalizing s sc with
  | zero => exact .refl _
  | succ n ih =>
    have rest (e : SpriteScan) := ih (s := s + 1) e (by omega)
    unfold Vdp.scanSprites
    simp only
    split
    · exact storeSentinel_kept (by omega) _
    · split
      · exact rest sc
      · split
        · exact storeFifth_kept (by omega) _
        · have drawn := d.drawSprite_collides s (d.spriteRow y s).toNat sc
          exact drawn.kept.trans (rest { d.drawSprite s _ sc with count := sc.count + 1 })

theorem Vdp.renderLine_kept (p : Params) (y : Nat) : StatusKept d.status (d.renderLine p y).status := by
  have sprites (line : LineBuf) : StatusKept d.status (d.sprites y line).status :=
    d.scanSprites_kept y ⟨line, _, d.status, 0⟩ le_rfl
  unfold Vdp.renderLine
  split
  · split
    · exact .refl _
    · exact sprites _
    · exact sprites _
  · exact .refl _

theorem Vdp.rendered_kept (p : Params) (n : Nat) : StatusKept (d.opened p n).status (d.rendered p n).status := by
  unfold Vdp.rendered
  split
  · exact (d.opened p n).renderLine_kept p n
  · exact .refl _

end

/-- Settles O54: a scanline changes the picture, the status and nothing else, bit 7 of the status only at its two
ends, and a line with the display off is drawn without looking at the sprites. -/
theorem scanlineRules : Obligations.ScanlineRules := by
  intro p n d x y
  have drawn := d.processScanline_redraws p n
  have status := d.processScanline_status p n
  have opened := d.opened_status p n
  have interrupt := (d.rendered_kept p n).interrupt
  refine ⟨d.processScanline_pulse p n, ?line191, ?otherLine, drawn.regs, drawn.vram, by rw [drawn.1],
    by rw [drawn.1], ?line0, ?inactive, ?off⟩
  case line191 =>
    intro last enabled
    rw [status, if_pos ⟨last, enabled⟩]
    simp
  case otherLine =>
    rintro ⟨later, silent⟩
    rw [if_neg later] at opened
    rw [status, if_neg (by simpa [imp_iff_not_or] using silent), interrupt, opened]
  case line0 =>
    rintro rfl
    refine ⟨?status, fun outside => ?pixel⟩
    case status =>
      rw [status, if_neg (by simp), interrupt, opened, if_pos rfl]
      rfl
    case pixel =>
      obtain ⟨row, put⟩ := (d.startFrame p).renderLine_frame p 0
      have frame : (d.rendered p 0).frame = (d.startFrame p).frame.setRow 0 row := put
      rw [d.processScanline_frame, frame, Frame.pixel_setRow_of_outside _ _ outside]
      exact Frame.pixel_blank ..
  case inactive =>
    intro past
    exact congrArg (·.2) (d.processScanline_past p past)
  case off =>
    intro off
    refine ⟨fun wf column active => ?pixel, fun later notLast => ?kept, ?cleared⟩
    case pixel =>
      have index : (List.replicate activeColumns d.regs.backdrop)[x]? = some d.regs.backdrop :=
        List.getElem?_replicate.trans (if_pos column)
      rw [d.processScanline_frame, Vdp.rendered_off p off active,
        Vdp.pixel_blit p (d.opened_frame_wf p n wf) column active index, d.opened_regs, ite_self]
    case kept =>
      rw [status, if_neg (notLast ·.1), Vdp.rendered_off_status p n off, opened, if_neg later]
    case cleared =>
      rintro rfl
      rw [status, if_neg (by simp), Vdp.rendered_off_status p 0 off, opened, if_pos rfl]

end Sys2Proof.Machine
end

section
/-! A pixel of a Graphics I line without sprites (R383, R388). -/

namespace Sys2Proof.Machine

/-- Pieces of one length laid side by side: where a place of the whole lies in its piece. -/
theorem getElem?_flatMap_range {α : Type} {f : Nat → List α} {k : Nat} (len : ∀ i, (f i).length = k)
    {n i j : Nat} (hi : i < n) (hj : j < k) : ((List.range n).flatMap f)[i * k + j]? = (f i)[j]? := by
  induction n with
  | zero => omega
  | succ n ih =>
    have before : ((List.range n).flatMap f).length = n * k := length_flatMap_range len n
    rw [List.range_succ, List.flatMap_append]
    obtain earlier | rfl : i < n ∨ i = n := by omega
    · have within : i * k + j < n * k := by
        calc i * k + j
          _ < i * k + k := by omega
          _ = (i + 1) * k := (Nat.succ_mul i k).symm
          _ ≤ n * k := Nat.mul_le_mul_right k earlier
      rw [List.getElem?_append_left (before ▸ within), ih earlier]
    · rw [List.getElem?_append_right (by omega), before, Nat.add_sub_cancel_left, List.flatMap_singleton]

theorem patternPixels_getElem? (pat : Byte) (fg bg : Colour) {n b : Nat} (hb : b < n) :
    (patternPixels pat fg bg n)[b]? = some (if pat.getLsbD (7 - b) then fg else bg) := by
  simp [patternPixels, hb]

/-- The tile of column `x / 8` gives the pixel of column `x` from its bit `7 - x % 8`. -/
theorem Vdp.graphics1Line_getElem? (d : Vdp) {x : Nat} (y : Nat) (hx : x < 256) :
    (d.graphics1Line y)[x]? =
      let name := (d.vramAt (d.regs.nameBase + (y / 8) * 32 + x / 8)).toNat
      let pat := d.vramAt (d.regs.patternBase + name * 8 + y % 8)
      let c := d.vramAt (d.regs.colorBase + name / 8)
      some (if pat.getLsbD (7 - x % 8) then colourFg c else colourBg c) := by
  have place : x / 8 * 8 + x % 8 = x := Nat.div_add_mod' x 8
  have row (a : Nat) : a >>> 3 = a / 8 := Nat.shiftRight_eq_div_pow a 3
  have inTile : y &&& 7 = y % 8 := Nat.and_two_pow_sub_one_eq_mod y 3
  unfold Vdp.graphics1Line
  conv_lhs => rw [← place]
  rw [getElem?_flatMap_range (k := 8) (fun _ => by simp [patternPixels]) (by omega) (by omega)]
  simp only [patternPixels_getElem? _ _ _ (Nat.mod_lt x (by decide : 8 > 0)), row, inTile]

/-- A sentinel in the first entry ends the scan before any sprite (R392). -/
theorem Vdp.sprites_of_sentinel {d : Vdp} (y : Nat) (pixels : LineBuf) (h : d.spriteAttr 0 0 = 0xD0#8) :
    d.sprites y pixels =
      ⟨pixels, List.replicate activeColumns 0, storeSentinel 0 d.status, 0⟩ := by
  rw [sprites, scanSprites, if_pos h]

/-- Settles O55: the sentinel leaves the background as it is, and the row is drawn from the background's tiles. -/
theorem graphics1Pixel : Obligations.Graphics1Pixel := by
  intro p d x y column active wf on mode sentinel
  have regs := d.opened_regs p y
  have drawn : d.rendered p y =
      ({ d.opened p y with status := storeSentinel 0 (d.opened p y).status } : Vdp).blit p y
        (d.graphics1Line y) := by
    rw [d.rendered_active active, Vdp.renderLine_graphics1 p y (by rwa [regs]) (by rwa [regs]),
      Vdp.sprites_of_sentinel y _ ((d.opened_spriteAttr p y 0 0).trans sentinel), d.opened_graphics1Line]
  rw [d.processScanline_frame, drawn]
  refine (Vdp.pixel_blit p (d.opened_frame_wf p y wf) column active (d.graphics1Line_getElem? y column)).trans ?_
  rw [regs]
  rfl

end Sys2Proof.Machine
end

section
/-! The sprite flags of the status on one line (R391 to R393, R398 to R400). -/

namespace Sys2Proof.Machine

/-! ### The scan, entry by entry (R391) -/

/-- Entry `s` of the sprite table meets line `y`: it is no sentinel, and the line lies in its height (R391 to
R394). -/
def Vdp.Meets (d : Vdp) (y s : Nat) : Prop :=
  d.spriteAttr s 0 ≠ 0xD0#8 ∧ spriteY (d.spriteAttr s 0) ≤ (y : Int) ∧
    (y : Int) < spriteY (d.spriteAttr s 0) + ((d.regs.spriteSize * (1 + d.regs.mag) : Nat) : Int)

section
variable {d : Vdp} {y s : Nat}

theorem VdpRegs.mag_cases (r : VdpRegs) : r.mag = 0 ∨ r.mag = 1 := by
  unfold VdpRegs.mag
  split <;> simp

theorem Vdp.spriteRow_of_meets (h : d.Meets y s) :
    0 ≤ d.spriteRow y s ∧ d.spriteRow y s < (d.regs.spriteSize : Int) := by
  obtain ⟨-, below, above⟩ := h
  unfold Vdp.spriteRow
  obtain mag | mag := d.regs.mag_cases
  · rw [mag] at above ⊢
    simp only [if_true]
    omega
  · rw [mag] at above ⊢
    simp only [one_ne_zero, if_false]
    omega

/-- The scan at a sprite that meets the line: the fifth ends it, another is drawn. -/
theorem Vdp.scanSprites_of_meets (h : d.Meets y s) (n : Nat) (sc : SpriteScan) :
    d.scanSprites y (n + 1) s sc =
      if sc.count + 1 = 5 then { sc with count := 5, status := storeFifth s sc.status }
      else d.scanSprites y n (s + 1)
        { d.drawSprite s (d.spriteRow y s).toNat sc with count := sc.count + 1 } := by
  obtain ⟨first, last⟩ := spriteRow_of_meets h
  rw [scanSprites, if_neg h.1]
  simp only
  rw [if_neg (by omega)]

theorem storeFifth_masked {x : Byte} (clear : x.getLsbD 6 = false) :
    storeFifth 4 x &&& 0x5F#8 = 0x44#8 := by
  rw [storeFifth, if_neg (ne_true_of_eq_false clear)]
  simp [BitVec.and_or_distrib_right, BitVec.and_assoc]

theorem storeSentinel_masked {x : Byte} (clear : x.getLsbD 6 = false) :
    storeSentinel 0 x &&& 0x5F#8 = 0x00#8 := by
  have flag : x &&& 0x40#8 = 0 := (BitVec.and_twoPow x 6).trans (if_neg (ne_true_of_eq_false clear))
  rw [storeSentinel, if_neg (ne_true_of_eq_false clear)]
  simpa [BitVec.and_assoc] using flag

/-- Up to the fifth sprite nothing but the collision flag changes; the fifth stores its flag and index. -/
theorem Vdp.scanSprites_fifth {k n : Nat} {sc : SpriteScan} (left : s + k = 4) (count : sc.count = s)
    (clear : sc.status.getLsbD 6 = false) (meets : ∀ i, i < 5 → d.Meets y i) :
    (d.scanSprites y (n + k + 1) s sc).status &&& 0x5F#8 = 0x44#8 := by
  induction k generalizing s sc with
  | zero =>
    obtain rfl : s = 4 := left
    rw [scanSprites_of_meets (meets 4 (by decide)), if_pos (by omega)]
    exact storeFifth_masked clear
  | succ k ih =>
    rw [scanSprites_of_meets (meets s (by omega)), if_neg (by omega)]
    refine ih (by omega) (congrArg (· + 1) count) ?_
    exact (d.drawSprite_collides s _ sc).getLsbD_6.trans clear

theorem Vdp.sprites_fifth (pixels : LineBuf) (clear : d.status.getLsbD 6 = false)
    (meets : ∀ i, i < 5 → d.Meets y i) : (d.sprites y pixels).status &&& 0x5F#8 = 0x44#8 :=
  scanSprites_fifth (k := 4) (n := 27) rfl rfl clear meets

end

/-! ### The line -/

section
variable (p : Params) (n : Nat) (d : Vdp)

theorem Vdp.opened_meets (y s : Nat) : (d.opened p n).Meets y s ↔ d.Meets y s := by
  rw [Meets, Meets, opened_spriteAttr, opened_regs]

theorem Vdp.renderLine_status {d : Vdp} (on : d.regs.displayOn = true) (shown : d.regs.mode ≠ .text) :
    (d.renderLine p n).status = (d.sprites n (d.background n)).status := by
  rw [renderLine, if_pos on]
  split
  · contradiction
  · rfl
  · rfl

/-- The interrupt of line 191 is bit 7: it leaves the sprite flags. -/
theorem Vdp.processScanline_spriteFlags :
    (d.processScanline p n).2.status &&& 0x5F#8 = (d.rendered p n).status &&& 0x5F#8 ∧
      (d.processScanline p n).2.status.getLsbD 5 = (d.rendered p n).status.getLsbD 5 := by
  rw [processScanline_status]
  split
  · simp [BitVec.and_or_distrib_right]
  · exact ⟨rfl, rfl⟩

end

/-- Settles O56: the flags are those of the sprite scan, which runs on the status that line 0 has cleared. -/
theorem spriteFlags : Obligations.SpriteFlags := by
  intro p d y active on shown
  have status := d.opened_status p y
  have regs := d.opened_regs p y
  obtain ⟨flags, collision⟩ := d.processScanline_spriteFlags p y
  have kept := d.rendered_kept p y
  have scanned : (d.rendered p y).status = ((d.opened p y).sprites y ((d.opened p y).background y)).status := by
    rw [d.rendered_active active, Vdp.renderLine_status p y (by rwa [regs]) (by rwa [regs])]
  simp only [← status, flags, collision]
  refine ⟨kept.fifth, fun clear => ⟨fun meets => ?fifth, fun sentinel => ?sentinel⟩, kept.collision⟩
  case fifth =>
    rw [scanned]
    exact Vdp.sprites_fifth _ clear fun i hi => (d.opened_meets p y y i).2 (meets i hi)
  case sentinel =>
    rw [scanned, Vdp.sprites_of_sentinel y _ ((d.opened_spriteAttr p y 0 0).trans sentinel)]
    exact storeSentinel_masked clear

end Sys2Proof.Machine
end

section
/-! What the CPU reads of the sound card (R430, R432): every address of its window is a register, and no register
depends on the filter, the pacer or the samples (R493). -/

namespace Sys2Proof.Machine

/-! ### The window (R430) -/

/-- Every address of the window of the sound card is a register, the one of its five low bits. -/
theorem decodeAddr_sound {a : Word} (cart : Bool) (h : 0x9800 ≤ a.toNat ∧ a.toNat < 0x9C00) :
    ∃ n, decodeAddr cart a = .sound n ∧ n.toNat = a.toNat % 32 := by
  obtain ⟨-, -, -, -, -, -, -, sound, -⟩ := addressMap cart a
  exact sound h

theorem memRead_sound {a : Word} {n : BitVec 5} {s : State}
    (h : decodeAddr s.params.cartPresent a = .sound n) : memRead a s = (s.snd.readReg n, s) := by
  simp only [memRead, h]

/-- A read by the offset alone, as R432 lists them. -/
theorem Sound.readReg_eq (n : BitVec 5) (c : Sound) :
    c.readReg n =
      if n.toNat = 25 then c.potx
      else if n.toNat = 26 then c.poty
      else if n.toNat = 27 then ((c.v2.wave (c.v1.acc.getLsbD 23)) >>> 4).setWidth 8
      else if n.toNat = 28 then c.v2.env
      else 0 := by
  unfold Sound.readReg
  split
  case h_1 offset => rw [if_pos offset]
  case h_2 offset => simp [offset]
  case h_3 offset => simp [offset, BitVec.setWidth_ushiftRight_eq_extractLsb]
  case h_4 offset => simp [offset]
  case h_5 potx poty wave env => rw [if_neg potx, if_neg poty, if_neg wave, if_neg env]; rfl

/-- Settles O57: an address of the window selects the register of its offset, and a read takes it as it is. -/
theorem soundReads : Obligations.SoundReads := by
  intro a s first last
  obtain ⟨n, decoded, offset⟩ := decodeAddr_sound s.params.cartPresent ⟨first, last⟩
  rw [memRead_sound decoded, Sound.readReg_eq, offset]

/-! ### The part that the CPU can read (R493) -/

/-- The state behind the readable registers: the three voices, each of which can modulate another, and the
paddles. -/
def Sound.visible (c : Sound) : Voice × Voice × Voice × Byte × Byte := (c.v0, c.v1, c.v2, c.potx, c.poty)

theorem Sound.visible_eq_iff {c c' : Sound} :
    c.visible = c'.visible ↔
      c.v0 = c'.v0 ∧ c.v1 = c'.v1 ∧ c.v2 = c'.v2 ∧ c.potx = c'.potx ∧ c.poty = c'.poty := by
  simp only [visible, Prod.mk.injEq]

theorem Sound.readReg_congr {c c' : Sound} (n : BitVec 5) (h : c.visible = c'.visible) :
    c.readReg n = c'.readReg n := by
  obtain ⟨-, v1, v2, potx, poty⟩ := visible_eq_iff.1 h
  simp only [readReg_eq, v1, v2, potx, poty]

/-- The pacer and a sample write only the filter, the pacer's count and the samples. -/
theorem Sound.samplePace_visible (p : Params) (c : Sound) : (c.samplePace p).visible = c.visible := by
  unfold samplePace
  simp only
  split <;> rfl

section
variable {c c' : Sound} (p : Params)

/-- Oscillators and envelopes read nothing but the voices. -/
theorem Sound.sidCycle_visible_congr (h : c.visible = c'.visible) :
    (c.sidCycle p).visible = (c'.sidCycle p).visible := by
  obtain ⟨v0, v1, v2, potx, poty⟩ := visible_eq_iff.1 h
  have voices : (c.oscAdvance.oscSync.envCycle p).visible = (c'.oscAdvance.oscSync.envCycle p).visible := by
    simp only [visible, envCycle, oscSync, oscAdvance, v0, v1, v2, potx, poty]
  calc (c.sidCycle p).visible
    _ = (c.oscAdvance.oscSync.envCycle p).visible := samplePace_visible p _
    _ = (c'.oscAdvance.oscSync.envCycle p).visible := voices
    _ = (c'.sidCycle p).visible := (samplePace_visible p _).symm

theorem Sound.sidCycles_visible_congr (n : Nat) (h : c.visible = c'.visible) :
    (c.sidCycles p n).visible = (c'.sidCycles p n).visible := by
  induction n generalizing c c' with
  | zero => exact h
  | succ n ih => exact ih (sidCycle_visible_congr p h)

theorem Sound.ticks_visible_congr (n : Nat) (h : c.visible = c'.visible) :
    ((Sound.tick p)^[n] c).visible = ((Sound.tick p)^[n] c').visible := by
  induction n generalizing c c' with
  | zero => exact h
  | succ n ih => exact ih (sidCycles_visible_congr p sidCyclesPerTick h)

end

/-- Settles O60: the voices and paddles of a tick come from the voices and paddles before it, and every register
from the voices and paddles. -/
theorem soundNoninterference : Obligations.SoundNoninterference := by
  intro p n c c' r v0 v1 v2 potx poty
  exact Sound.readReg_congr r
    (Sound.ticks_visible_congr p n (Sound.visible_eq_iff.2 ⟨v0, v1, v2, potx, poty⟩))

end Sys2Proof.Machine
end

section
/-! The envelope (R433, R460 to R465): the gate edges, and the level in one cycle of each state. -/

namespace Sys2Proof.Machine

theorem highNibble_toNat (b : Byte) : (highNibble b).toNat = b.toNat / 16 := by
  simp only [highNibble, BitVec.extractLsb'_toNat, Nat.shiftRight_eq_div_pow]
  omega

theorem lowNibble_toNat (b : Byte) : (lowNibble b).toNat = b.toNat % 16 := by
  simp only [lowNibble, BitVec.extractLsb'_toNat, Nat.shiftRight_zero]

/-! ### The sustain level (R464) -/

theorem sustainLevel_highNibble (table : List Byte) (b : Byte) :
    sustainLevel table (highNibble b) = table.getD (b.toNat / 16) 0 := by
  rw [sustainLevel, highNibble_toNat]
  rfl

theorem defaultSustainLevel_getD {n : Nat} (h : n < 16) : (defaultSustainLevel.getD n 0).toNat = n * 0x11 := by
  have entry : defaultSustainLevel.getD n 0 = BitVec.ofNat 8 (n * 0x11) := by
    simp [defaultSustainLevel, List.getD, h]
  rw [entry, BitVec.toNat_ofNat]
  omega

theorem sustainLevel_of_wf {p : Params} (h : p.wf = true) : p.sustainLevel = defaultSustainLevel := by
  simp only [Params.wf, Params.wfSustain, Bool.and_eq_true, decide_eq_true_eq] at h
  tauto

/-! ### The gate edges (R433) -/

section
variable {v : Voice} {x : Byte}

theorem Voice.writeCtrl_up (before : v.ctrl.getLsbD 0 = false) (after : x.getLsbD 0 = true) :
    v.writeCtrl x = { v with ctrl := x, envState := .attack, rateCnt := 0, expCnt := 0 } := by
  rw [writeCtrl, gate, before, after]
  rfl

theorem Voice.writeCtrl_down (before : v.ctrl.getLsbD 0 = true) (after : x.getLsbD 0 = false) :
    v.writeCtrl x = { v with ctrl := x, envState := .release } := by
  rw [writeCtrl, gate, before, after]
  rfl

theorem Voice.writeCtrl_held (same : v.ctrl.getLsbD 0 = x.getLsbD 0) : v.writeCtrl x = { v with ctrl := x } := by
  rw [writeCtrl, gate, same]
  cases x.getLsbD 0 <;> rfl

end

/-! ### One cycle of each state (R461) -/

/-- The level of `w` is the level of `v` or one lower. -/
def Voice.FallsTo (v w : Voice) : Prop := w.env = v.env ∨ w.env.toNat + 1 = v.env.toNat

theorem Voice.countDown_envState (v : Voice) (period : Nat) : (v.countDown period).envState = v.envState := by
  unfold countDown
  split
  · rfl
  · split <;> rfl

/-- The two bounds of a fall; read from right to left they are those of a rise. -/
theorem Voice.FallsTo.bounds {v w : Voice} (h : v.FallsTo w) :
    w.env.toNat ≤ v.env.toNat ∧ v.env.toNat ≤ w.env.toNat + 1 := by
  obtain same | lower := h
  · rw [same]
    omega
  · omega

/-- A step down lowers the level by one; it does not wrap, for both states stop at level 0. -/
theorem Voice.countDown_falls {v : Voice} (period : Nat) (h : v.env ≠ 0) : v.FallsTo (v.countDown period) := by
  unfold countDown
  split
  · exact .inl rfl
  · split
    · exact .inl rfl
    · refine .inr ?_
      simp only
      bv_omega

/-- Attack stops at `0xFF`, so that its step up does not wrap. -/
theorem Voice.attackCycle_rises (v : Voice) (period : Nat) : (v.attackCycle period).FallsTo v := by
  unfold attackCycle
  split
  · exact .inl rfl
  · simp only [FallsTo, apply_ite Voice.env, ite_self]
    split
    · exact .inr (by bv_omega)
    · exact .inl rfl

section
variable {v : Voice} (period : Nat) (level : Byte)

theorem Voice.decayCycle_falls : v.FallsTo (v.decayCycle period level) := by
  unfold decayCycle
  simp only
  split
  · exact .inl rfl
  · next above =>
    have falls := v.countDown_falls period (by bv_omega)
    split <;> exact falls

/-- Decay goes on until the level is down to the sustain level. -/
theorem Voice.decayCycle_envState (h : v.envState = .decay) :
    (v.decayCycle period level).envState =
      if (v.decayCycle period level).env ≤ level then .sustain else .decay := by
  unfold decayCycle
  simp only
  split
  · rfl
  · split
    · rfl
    · exact (v.countDown_envState period).trans h

theorem Voice.releaseCycle_falls : v.FallsTo (v.releaseCycle period) := by
  unfold releaseCycle
  split
  · exact .inl rfl
  · next above => exact countDown_falls period above

theorem Voice.releaseCycle_envState : (v.releaseCycle period).envState = v.envState := by
  unfold releaseCycle
  split
  · rfl
  · exact v.countDown_envState period

end

section
variable {p : Params} {v : Voice}

theorem Voice.envCycle_attack (h : v.envState = .attack) :
    v.envCycle p = v.attackCycle (ratePeriod p.attackPeriod (highNibble v.ad)) := by
  simp only [envCycle, h]

theorem Voice.envCycle_decay (h : v.envState = .decay) :
    v.envCycle p = v.decayCycle (ratePeriod p.decayReleasePeriod (lowNibble v.ad))
      (p.sustainLevel.getD (v.sr.toNat / 16) 0) := by
  simp only [envCycle, h, sustainLevel_highNibble]

theorem Voice.envCycle_sustain (h : v.envState = .sustain) :
    v.envCycle p = { v with env := p.sustainLevel.getD (v.sr.toNat / 16) 0 } := by
  simp only [envCycle, h, sustainLevel_highNibble]

theorem Voice.envCycle_release (h : v.envState = .release) :
    v.envCycle p = v.releaseCycle (ratePeriod p.decayReleasePeriod (lowNibble v.sr)) := by
  simp only [envCycle, h]

/-- Outside Sustain the level moves by at most one: up in Attack, down in Decay and Release. -/
theorem Voice.envCycle_near (h : v.envState ≠ .sustain) : v.FallsTo (v.envCycle p) ∨ (v.envCycle p).FallsTo v := by
  cases state : v.envState with
  | attack => exact .inr (envCycle_attack (p := p) state ▸ v.attackCycle_rises _)
  | decay => exact .inl (envCycle_decay (p := p) state ▸ decayCycle_falls _ _)
  | sustain => exact absurd state h
  | release => exact .inl (envCycle_release (p := p) state ▸ releaseCycle_falls _)

end

/-- Settles O58: the gate by the bit before and after the write, a cycle by the state it starts in. -/
theorem envelopeRules : Obligations.EnvelopeRules := by
  intro p v x
  refine ⟨Voice.writeCtrl_up, Voice.writeCtrl_down, Voice.writeCtrl_held, ?near, ?release, ?decay,
    Voice.envCycle_sustain, ?entry⟩
  case near =>
    intro state
    obtain falls | rises := Voice.envCycle_near (p := p) state
    · have := falls.bounds
      omega
    · have := rises.bounds
      omega
  case release =>
    intro state
    rw [Voice.envCycle_release state]
    exact ⟨(Voice.releaseCycle_falls _).bounds.1, (Voice.releaseCycle_envState _).trans state⟩
  case decay =>
    intro state
    rw [Voice.envCycle_decay state, Voice.decayCycle_envState _ _ state]
    split
    · next down => exact ⟨iff_of_true rfl down, .inl rfl⟩
    · next above => exact ⟨iff_of_false nofun above, .inr rfl⟩
  case entry =>
    intro wf
    rw [sustainLevel_of_wf wf]
    exact defaultSustainLevel_getD (by omega)

end Sys2Proof.Machine
end

section
/-! The pacer and one output sample (R480, R482, R490). -/

namespace Sys2Proof.Machine

theorem clampUnit_eq (x : Rat) : clampUnit x = max (-1) (min 1 x) := by
  unfold clampUnit
  split
  · next low => rw [min_eq_right (by linarith), max_eq_left low]
  · next low =>
    split
    · next high => rw [min_eq_left high, max_eq_right (by norm_num)]
    · next high => rw [min_eq_right (not_le.1 high).le, max_eq_right (not_le.1 low).le]

section
variable (p : Params) (c : Sound)

/-- Dividing by `Q` is multiplying by the damping `1 - res / 17`. -/
theorem Sound.div_q (x : Rat) : x / c.q = x * (1 - ((c.resFilt.toNat / 16 : Nat) : Rat) / 17) := by
  rw [q, highNibble_toNat, div_div_eq_mul_div, div_one]

/-- The level of R482 with its sum and its volume written out. -/
theorem Sound.level_eq :
    c.level = max (-1) (min 1
      (((if c.modeVol.getLsbD 4 then c.lp else 0) + (if c.modeVol.getLsbD 5 then c.bp else 0) +
          (if c.modeVol.getLsbD 6 then c.hp else 0) + c.directSum) *
        (((c.modeVol.toNat % 16 : Nat) : Rat) / 15) / 4096)) := by
  rw [level, clampUnit_eq, lowNibble_toNat]
  rfl

variable {p c}

theorem Sound.samplePace_below (h : c.sampleAcc + p.sampleRateHz < p.sidClockHz) :
    c.samplePace p = { c with sampleAcc := c.sampleAcc + p.sampleRateHz } :=
  if_neg (not_le.2 h)

theorem Sound.samplePace_due (h : p.sidClockHz ≤ c.sampleAcc + p.sampleRateHz) :
    c.samplePace p =
      ({ c with sampleAcc := c.sampleAcc + p.sampleRateHz - p.sidClockHz } : Sound).sample p :=
  if_pos h

end

/-- Settles O59: the pacer by its two cases; a sample is the filter step, then the level of the new filter. -/
theorem sampleRule : Obligations.SampleRule := by
  intro p c
  refine ⟨Sound.samplePace_below, fun due => ?_⟩
  rw [Sound.samplePace_due due, Sound.sample, Sound.level_eq, Sound.filterStep, Sound.div_q]
  rfl

end Sys2Proof.Machine
end

section
/-! The VIA in every step (R66, R511, R532, R535, R552, R561): an access or a tick asks the attachments without
moving them, sets no SR flag, and moves a control line or a timer only by the rule of that line or timer. -/

namespace Sys2Proof.Machine

/-! ### The attachment lists -/

/-- An attachment list that the VIA can have: at most 8 members in priority order (R66, R561). -/
def AttachmentsOk (ts : List Attachment) : Prop := ts.length ≤ 8 ∧ prioritySorted ts

/-- Whether a list can be one of the VIA's depends on nothing but the priorities. -/
theorem attachmentsOk_congr {ts us : List Attachment}
    (h : us.map Attachment.priority = ts.map Attachment.priority) (ok : AttachmentsOk ts) :
    AttachmentsOk us := by
  obtain ⟨size, sorted⟩ := ok
  have sameSize : us.length = ts.length := by simpa using congrArg List.length h
  have byPriority : (us.map Attachment.priority).Pairwise (· ≤ ·) := h ▸ List.pairwise_map.2 sorted
  exact ⟨sameSize ▸ size, List.pairwise_map.1 byPriority⟩

theorem askEnabled_priority (t : Attachment) (drawn : Nat) :
    (askEnabled t drawn).attachment.priority = t.priority := by
  unfold askEnabled
  split <;> rfl

theorem askRead_priority (t : Attachment) (drawn : Nat) :
    (askRead t drawn).attachment.priority = t.priority := by
  unfold askRead
  split <;> rfl

theorem askRequests_priority (t : Attachment) (drawn : Nat) :
    (askRequests t drawn).attachment.priority = t.priority := by
  unfold askRequests
  split <;> rfl

/-- A port read asks every attachment in its place (R520). -/
theorem scanPort_priorities (p : Port) (ddr orv : Byte) (i : Nat) (ext : Byte) (drawn : Nat)
    (ts : List Attachment) :
    (scanPort p ddr orv i ext drawn ts).list.map Attachment.priority = ts.map Attachment.priority := by
  induction ts generalizing i ext drawn with
  | nil => rfl
  | cons t ts ih =>
    unfold scanPort
    simp only
    split
    · simp [ih, askRead_priority, askEnabled_priority]
    · simp [ih, askEnabled_priority]

/-- A poll asks every attachment in its place (R540). -/
theorem scanRequests_priorities (p : Port) (i : Nat) (flags : BitVec 7) (drawn : Nat) (ts : List Attachment) :
    (scanRequests p i flags drawn ts).list.map Attachment.priority = ts.map Attachment.priority := by
  induction ts generalizing i flags drawn with
  | nil => rfl
  | cons t ts ih => simp [scanRequests, ih, askRequests_priority]

/-! ### The SR flag (R511) -/

theorem srFlag_or {f g : BitVec 7} (hf : f.getLsbD 2 = false) (hg : g.getLsbD 2 = false) :
    (f ||| g).getLsbD 2 = false := by
  rw [BitVec.getLsbD_or, hf, hg, Bool.or_false]

/-- No attachment can ask for the SR flag (R540). -/
theorem requestFlags_sr (r : Requests) : (requestFlags r).getLsbD 2 = false := by
  obtain ⟨ca1, ca2, cb1, cb2⟩ := r
  revert ca1 ca2 cb1 cb2
  decide

theorem scanRequests_sr (p : Port) (i : Nat) (flags : BitVec 7) (drawn : Nat) (ts : List Attachment)
    (clear : flags.getLsbD 2 = false) : (scanRequests p i flags drawn ts).value.getLsbD 2 = false := by
  induction ts generalizing i flags drawn with
  | nil => exact clear
  | cons t ts ih => exact ih _ _ _ (srFlag_or clear (requestFlags_sr _))

/-! ### The registers -/

section
variable {v : Via}

theorem Via.clearFlags_ok (m : BitVec 7) (ok : v.Ok) : (v.clearFlags m).Ok := by
  obtain ⟨lines, timers, sr, lists⟩ := ok
  exact ⟨lines, timers, by rw [Via.clearFlags_ifr, BitVec.getLsbD_and, sr, Bool.false_and], lists⟩

theorem Via.readPort_ok (p : Port) (ok : v.Ok) : (v.readPort p).2.Ok := by
  obtain ⟨lines, timers, sr, a, b⟩ := ok
  cases p with
  | a => exact ⟨lines, timers, sr, attachmentsOk_congr (scanPort_priorities ..) a, b⟩
  | b => exact ⟨lines, timers, sr, a, attachmentsOk_congr (scanPort_priorities ..) b⟩

theorem Via.noteBoth_ok (c : AttachCall) (ok : v.Ok) : (v.noteBoth c).Ok := ok

theorem Via.handshake_ok (p : Port) (ok : v.Ok) : (v.handshake p).Ok := by
  cases p <;> exact Via.noteBoth_ok _ (Via.clearFlags_ok _ ok)

theorem Via.writePort_ok (p : Port) (x : Byte) (ok : v.Ok) : (v.writePort p x).Ok := by
  cases p <;> exact ok

/-- A write of PCR moves CA2 and CB2 to where it says (R552). -/
theorem Via.writePcr_ok (x : Byte) (ok : v.Ok) : (v.writePcr x).Ok := by
  obtain ⟨⟨ca1, cb1, -, -⟩, rest⟩ := ok
  unfold Via.writePcr
  simp only
  split <;> exact ⟨⟨ca1, cb1, rfl, rfl⟩, rest⟩

/-- T1 loaded is running, with no reload pending (R531). -/
theorem Via.startT1_ok (x : Byte) (ok : v.Ok) : (v.startT1 x).Ok := by
  obtain ⟨lines, ⟨-, t2, -⟩, rest⟩ := ok
  exact Via.clearFlags_ok _ ⟨lines, ⟨nofun, t2, nofun⟩, rest⟩

/-- T2 loaded is running (R535). -/
theorem Via.startT2_ok (x : Byte) (ok : v.Ok) : (v.startT2 x).Ok := by
  obtain ⟨lines, ⟨t1, -, reload⟩, rest⟩ := ok
  exact Via.clearFlags_ok _ ⟨lines, ⟨t1, nofun, reload⟩, rest⟩

theorem Via.readReg_ok (n : BitVec 4) (ok : v.Ok) : (v.readReg n).2.Ok := by
  unfold Via.readReg
  split
  case h_1 => exact Via.handshake_ok .b (Via.readPort_ok .b ok)
  case h_2 => exact Via.handshake_ok .a (Via.readPort_ok .a ok)
  case h_5 | h_9 => exact Via.clearFlags_ok _ ok
  case h_16 => exact Via.readPort_ok .a ok
  all_goals exact ok

theorem Via.storeReg_ok (n : BitVec 4) (x : Byte) (ok : v.Ok) : (v.storeReg n x).Ok := by
  unfold Via.storeReg
  split
  case h_1 => exact Via.handshake_ok .b (Via.writePort_ok .b x ok)
  case h_2 => exact Via.handshake_ok .a (Via.writePort_ok .a x ok)
  case h_6 => exact Via.startT1_ok x ok
  case h_10 => exact Via.startT2_ok x ok
  case h_13 => exact Via.writePcr_ok x ok
  case h_14 => exact Via.clearFlags_ok _ ok
  case h_15 => split <;> exact ok
  case h_16 => exact Via.writePort_ok .a x ok
  all_goals exact ok

/-! ### The tick and the reset -/

/-- T1 halts or has a reload pending only when it has come to 0 (R532). -/
theorem Via.stepT1_ok (ok : v.Ok) : v.stepT1.Ok := by
  obtain ⟨lines, ⟨t1, t2, reload⟩, sr, lists⟩ := ok
  unfold Via.stepT1
  simp only
  split
  · next pending =>
    have running := (reload pending).1
    exact ⟨lines, ⟨fun halted => absurd (running.symm.trans halted) nofun, t2, nofun⟩, sr, lists⟩
  · split
    · next idle running =>
      split
      · next expired =>
        exact ⟨lines, ⟨fun _ => expired, t2, fun free => ⟨free, expired⟩⟩, srFlag_or sr (by decide),
          lists⟩
      · have counting : v.t1ReloadPending ≠ true := idle
        exact ⟨lines, ⟨fun halted => absurd (running.symm.trans halted) nofun, t2,
          fun pending => absurd pending counting⟩, sr, lists⟩
    · exact ⟨lines, ⟨t1, t2, reload⟩, sr, lists⟩

/-- T2 halts only when it has come to 0 (R535). -/
theorem Via.stepT2_ok (ok : v.Ok) : v.stepT2.Ok := by
  obtain ⟨lines, ⟨t1, t2, reload⟩, sr, lists⟩ := ok
  unfold Via.stepT2
  simp only
  split
  · next running =>
    split
    · next expired => exact ⟨lines, ⟨t1, fun _ => expired, reload⟩, srFlag_or sr (by decide), lists⟩
    · exact ⟨lines, ⟨t1, fun halted => absurd (running.symm.trans halted) nofun, reload⟩, sr, lists⟩
  · exact ⟨lines, ⟨t1, t2, reload⟩, sr, lists⟩

theorem Via.pollPort_ok (p : Port) (ok : v.Ok) : (v.pollPort p).Ok := by
  obtain ⟨lines, timers, sr, a, b⟩ := ok
  have flags := srFlag_or sr (scanRequests_sr p 0 0 v.drawn (v.list p) BitVec.getLsbD_zero)
  cases p with
  | a => exact ⟨lines, timers, flags, attachmentsOk_congr (scanRequests_priorities ..) a, b⟩
  | b => exact ⟨lines, timers, flags, a, attachmentsOk_congr (scanRequests_priorities ..) b⟩

theorem Via.tick_ok (ok : v.Ok) : v.tick.2.Ok :=
  Via.pollPort_ok .b <| Via.pollPort_ok .a <| Via.noteBoth_ok .tick <|
    Via.stepT2_ok <| Via.stepT1_ok ok

theorem Via.reset_ok (ok : v.Ok) : v.reset.Ok := by
  obtain ⟨-, -, -, lists⟩ := ok
  have lines : Via.cold.LinesOk := ⟨rfl, rfl, rfl, rfl⟩
  have timers : Via.cold.TimersOk := ⟨fun _ => rfl, fun _ => rfl, nofun⟩
  exact ⟨lines, timers, BitVec.getLsbD_zero, lists⟩

end

/-! ### The step -/

/-- A read leaves the VIA alone or reads one of its registers. -/
theorem memRead_via (a : Word) (s : State) :
    (memRead a s).2.via = s.via ∨ ∃ n, (memRead a s).2.via = (s.via.readReg n).2 := by
  unfold memRead
  split
  case h_5 n _ => exact .inr ⟨n, rfl⟩
  all_goals exact .inl rfl

/-- A write leaves the VIA alone or writes one of its registers. -/
theorem memWrite_via (a : Word) (x : Byte) (s : State) :
    (memWrite a x s).via = s.via ∨ ∃ n, (memWrite a x s).via = (s.via.writeReg n x).2 := by
  unfold memWrite
  split
  case h_5 n _ => exact .inr ⟨n, rfl⟩
  all_goals exact .inl rfl

theorem viaOk_keptByBus : KeptByBus fun s => Via.Ok s.via where
  cpu {s t} same _ ok := by
    obtain ⟨-, -, -, -, -, -, via, -⟩ := same
    rwa [via]
  read a s ok := by
    obtain same | ⟨n, read⟩ := memRead_via a s
    · rwa [same]
    · rw [read]
      exact Via.readReg_ok n ok
  write a x s ok := by
    obtain same | ⟨n, written⟩ := memWrite_via a x s
    · rwa [same]
    · rw [written]
      exact Via.storeReg_ok n x ok

theorem viaOk_keptByStep : KeptByStep fun s => Via.Ok s.via where
  bus := viaOk_keptByBus
  posted := id
  devices := {
    pulse p _ := viaOk_keptByBus.pulse p
    cards _ _ := id
    via := Via.tick_ok
    sound := id
    video _ _ := id
    scheduler _ _ _ := id }
  reset _ _ := Via.reset_ok

/-- Settles O46: a write of PCR sets the lines by their rule, a timer halts or reloads at 0 only, and no
access, tick or reset sets the SR flag or moves an attachment. -/
theorem stepKeepsVia : Obligations.StepKeepsVia := fun _ _ => viaOk_keptByStep.step

end Sys2Proof.Machine
end

section
/-! Timer 1 of the VIA (R531, R532): before its last tick it only counts, and in its last tick it expires. -/

namespace Sys2Proof.Machine

/-- The card after `k` ticks of which none ends the count. -/
def Via.countT1 (k : Nat) (v : Via) : Via := { v with t1c := v.t1c - BitVec.ofNat 16 k }

/-- The card after the tick that ends the count: the flag is set, PB7 toggled if ACR bit 7 is set, and T1 halted
or, in free-run, due to reload. -/
def Via.expireT1 (v : Via) : Via :=
  { v with
    t1c := 0
    ifr := v.ifr ||| ifrT1
    orb := if v.acr.getLsbD 7 then v.orb ^^^ 0x80#8 else v.orb
    t1ReloadPending := v.acr.getLsbD 6
    t1Running := v.acr.getLsbD 6 }

section
variable {v : Via} (running : v.t1Running = true) (idle : v.t1ReloadPending = false)
include running idle

theorem Via.stepT1_counting (more : v.t1c ≠ 1) : v.stepT1 = v.countT1 1 := by
  have notYet : v.t1c - 1 ≠ 0 := fun zero => more (sub_eq_zero.1 zero)
  rw [Via.stepT1, if_neg (by simp [idle]), if_pos running]
  exact if_neg notYet

theorem Via.stepT1_expires (last : v.t1c = 1) : v.stepT1 = v.expireT1 := by
  simp [Via.stepT1, Via.expireT1, running, idle, last]

/-- Up to its last tick the timer only counts. -/
theorem Via.iterate_stepT1_counting {k : Nat} (more : k < v.t1c.toNat) :
    Via.stepT1^[k] v = v.countT1 k := by
  induction k with
  | zero => simp [Via.countT1]
  | succ k ih =>
    have notLast : (v.countT1 k).t1c ≠ 1 := by
      rw [Via.countT1]
      bv_omega
    have next : v.t1c - BitVec.ofNat 16 k - BitVec.ofNat 16 1 = v.t1c - BitVec.ofNat 16 (k + 1) := by bv_omega
    calc Via.stepT1^[k + 1] v
      _ = (v.countT1 k).stepT1 := by rw [Function.iterate_succ_apply', ih (Nat.lt_of_succ_lt more)]
      _ = (v.countT1 k).countT1 1 := Via.stepT1_counting running idle notLast
      _ = v.countT1 (k + 1) := congrArg (fun c : Word => { v with t1c := c }) next

/-- The tick that ends the count is the one in which the timer expires. -/
theorem Via.iterate_stepT1_expires {n : Nat} (positive : 1 ≤ n) (loaded : v.t1c.toNat = n) :
    Via.stepT1^[n] v = v.expireT1 := by
  obtain ⟨k, rfl⟩ := Nat.exists_eq_add_of_le' positive
  have last : (v.countT1 k).t1c = 1 := by
    rw [Via.countT1]
    bv_omega
  calc Via.stepT1^[k + 1] v
    _ = (v.countT1 k).stepT1 := by
      rw [Function.iterate_succ_apply', Via.iterate_stepT1_counting running idle (by omega)]
    _ = (v.countT1 k).expireT1 := Via.stepT1_expires running idle last
    _ = v.expireT1 := rfl

end

theorem Via.stepT1_reloads {v : Via} (pending : v.t1ReloadPending = true) :
    v.stepT1 = { v with t1c := v.t1l, t1ReloadPending := false } := by
  simp [Via.stepT1, pending]

/-- The T1 flag is set by `ifrT1`. -/
theorem or_ifrT1_getLsbD (f : BitVec 7) : (f ||| ifrT1).getLsbD 6 = true := by
  have flag : ifrT1.getLsbD 6 = true := by decide
  rw [BitVec.getLsbD_or, flag, Bool.or_true]

/-- Bit 7 of ORB is toggled by its mask, or left alone (R532). -/
theorem toggled_getLsbD (on : Bool) (b : Byte) :
    (if on then b ^^^ 0x80#8 else b).getLsbD 7 = (b.getLsbD 7 ^^ on) := by
  cases on <;> simp

/-- Settles O49: `n - 1` counting ticks and one in which the timer expires; a pending reload takes one tick
before them. -/
theorem timerExpiry : Obligations.TimerExpiry := by
  refine fun n v => ⟨fun positive loaded running idle => ?loaded,
    fun positive latch running pending free => ?reload⟩
  case loaded =>
    rw [Via.iterate_stepT1_expires running idle positive loaded]
    refine ⟨fun k early => ?_, or_ifrT1_getLsbD _, rfl, rfl, rfl, toggled_getLsbD ..⟩
    rw [Via.iterate_stepT1_counting running idle (by omega)]
    have left : (v.t1c - BitVec.ofNat 16 k).toNat = n - k := by bv_omega
    exact ⟨rfl, left⟩
  case reload =>
    let reloaded : Via := { v with t1c := v.t1l, t1ReloadPending := false }
    have expires : Via.stepT1^[n] reloaded = reloaded.expireT1 :=
      Via.iterate_stepT1_expires (v := reloaded) running rfl positive latch
    rw [Function.iterate_succ_apply, Via.stepT1_reloads pending, expires]
    exact ⟨rfl, or_ifrT1_getLsbD _, free⟩

end Sys2Proof.Machine
end

section
/-! The registers and the IRQ output of the VIA (R510, R524, R531, R535, R545 to R548). -/

namespace Sys2Proof.Machine

/-! ### The IRQ output (R548) -/

theorem bitVec_ne_zero_iff {w : Nat} (f : BitVec w) : f ≠ 0 ↔ ∃ k, f.getLsbD k = true := by
  refine ⟨fun nonzero => ?_, ?_⟩
  · by_contra none
    refine nonzero (BitVec.eq_of_getLsbD_eq fun k _ => ?_)
    simpa using not_exists.1 none k
  · rintro ⟨k, set⟩ rfl
    simp at set

/-- A bit is gained when it is set after and clear before. -/
theorem viaGained_iff (before after : BitVec 7) :
    viaGained before after = true ↔ ∃ k, after.getLsbD k = true ∧ before.getLsbD k = false := by
  rw [viaGained, decide_eq_true_iff, bitVec_ne_zero_iff]
  refine exists_congr fun k => ?_
  rw [BitVec.getLsbD_and, BitVec.getLsbD_not, Bool.and_eq_true, Bool.and_eq_true, Bool.not_eq_true',
    decide_eq_true_iff]
  exact ⟨fun ⟨set, _, clear⟩ => ⟨set, clear⟩,
    fun ⟨set, clear⟩ => ⟨set, BitVec.lt_of_getLsbD set, clear⟩⟩

/-- Settles O50: the pulse of a tick and of a write is a bit gained by `IFR & IER`. -/
theorem pulseWhenGained : Obligations.PulseWhenGained := fun _ _ _ =>
  ⟨viaGained_iff .., viaGained_iff ..⟩

/-! ### IFR and IER (R545 to R547) -/

section
variable {k : Nat} (hk : k < 7)
include hk

theorem getLsbD_master_append (m : BitVec 1) (f : BitVec 7) :
    (m ++ f : BitVec (1 + 7)).getLsbD k = f.getLsbD k := by
  rw [BitVec.getLsbD_append, if_pos hk]

theorem flagBits_getLsbD (x : Byte) : (flagBits x).getLsbD k = x.getLsbD k := by
  simp [flagBits, hk]

end

theorem getLsbD_master (m : BitVec 1) (f : BitVec 7) :
    (m ++ f : BitVec (1 + 7)).getLsbD 7 = m.getLsbD 0 := by
  rw [BitVec.getLsbD_append, if_neg (by decide)]

/-- The master bit of IFR is set when some flag is set and enabled (R545). -/
theorem Via.ifrByte_master (v : Via) :
    v.ifrByte.getLsbD 7 = true ↔ ∃ k, v.ifr.getLsbD k = true ∧ v.ier.getLsbD k = true := by
  have master : v.ifrByte.getLsbD 7 = decide (v.act ≠ 0) := by
    rw [Via.ifrByte, getLsbD_master]
    simp
  rw [master, decide_eq_true_iff, bitVec_ne_zero_iff]
  simp [Via.act, BitVec.getLsbD_and]

/-- A write of IFR clears the flags of the byte's 1 bits (R546). -/
theorem Via.writeReg_ifr_getLsbD {k : Nat} (hk : k < 7) (x : Byte) (v : Via) :
    (v.writeReg 13#4 x).2.ifr.getLsbD k = (v.ifr.getLsbD k && !x.getLsbD k) := by
  have written : (v.writeReg 13#4 x).2 = v.clearFlags (flagBits x) := rfl
  rw [written, Via.clearFlags_ifr, BitVec.getLsbD_and, BitVec.getLsbD_not, flagBits_getLsbD hk,
    decide_eq_true hk, Bool.true_and]

/-- A write of IER sets or clears the enable bits of the byte's 1 bits, as its bit 7 says (R547). -/
theorem Via.writeReg_ier (x : Byte) (v : Via) :
    (v.writeReg 14#4 x).2 = { v with
      ier := if x.getLsbD 7 then v.ier ||| flagBits x else v.ier &&& ~~~flagBits x } := by
  change (if _ then _ else _) = _
  split <;> rfl

theorem Via.writeReg_ier_getLsbD {k : Nat} (hk : k < 7) (x : Byte) (v : Via) :
    (v.writeReg 14#4 x).2.ier.getLsbD k = if x.getLsbD k then x.getLsbD 7 else v.ier.getLsbD k := by
  rw [Via.writeReg_ier, ← flagBits_getLsbD hk x]
  split
  · next set =>
    rw [BitVec.getLsbD_or, set]
    cases (flagBits x).getLsbD k <;> simp
  · next clear =>
    rw [BitVec.getLsbD_and, BitVec.getLsbD_not, decide_eq_true hk, Bool.eq_false_of_not_eq_true clear]
    cases (flagBits x).getLsbD k <;> simp

/-- A write of PCR stores it, whether or not a control line changes (R552). -/
theorem Via.writePcr_pcr (x : Byte) (v : Via) : (v.writePcr x).pcr = x := by
  unfold Via.writePcr
  simp only
  split <;> rfl

/-- Settles O51: every register but IFR, IER and PCR is one field, read or written as it is. -/
theorem viaRegisters : Obligations.ViaRegisters := by
  intro v x
  refine ⟨⟨rfl, rfl, rfl, rfl, rfl, rfl, rfl, rfl, rfl, rfl, rfl⟩,
    ⟨rfl, rfl, rfl, rfl, rfl, rfl, rfl, rfl, rfl, rfl, v.writePcr_pcr x⟩,
    ⟨rfl, fun k hk => getLsbD_master_append hk _ v.ifr, v.ifrByte_master, rfl,
      fun k hk => Via.writeReg_ifr_getLsbD hk x v⟩,
    rfl, fun k hk => getLsbD_master_append hk _ v.ier, getLsbD_master _ v.ier, ?ier,
    fun k hk => Via.writeReg_ier_getLsbD hk x v⟩
  case ier =>
    have stored := Via.writeReg_ier x v
    exact stored.trans (congrArg (fun w : Via => { v with ier := w.ier }) stored).symm

end Sys2Proof.Machine
end

section
/-! The value of a port read (R520, R521, R560). -/

namespace Sys2Proof.Machine

/-- Every attachment of a list has an answer listed to each question that a port read can ask (log entry 9). -/
def AnswersListed (ts : List Attachment) : Prop := ∀ t ∈ ts, t.enabled ≠ [] ∧ t.reads ≠ []

/-- What a listed attachment contributes to a bit of the port: 1 unless it is enabled and answers 0. -/
def attachmentBit (k : Nat) (t : Attachment) : Bool :=
  !(t.enabled.headD false) || (t.reads.headD 0xFF#8).getLsbD k

theorem askEnabled_value {t : Attachment} (listed : t.enabled ≠ []) (drawn : Nat) :
    (askEnabled t drawn).value = t.enabled.headD false := by
  unfold askEnabled
  split
  · next answers => rw [answers]; rfl
  · next none => exact absurd none listed

theorem askEnabled_reads (t : Attachment) (drawn : Nat) :
    (askEnabled t drawn).attachment.reads = t.reads := by
  unfold askEnabled
  split <;> rfl

theorem askRead_value {t : Attachment} (listed : t.reads ≠ []) (drawn : Nat) :
    (askRead t drawn).value = t.reads.headD 0xFF#8 := by
  unfold askRead
  split
  · next answers => rw [answers]; rfl
  · next none => exact absurd none listed

/-- The scan of a list takes the AND of what the enabled attachments answer (R520). -/
theorem scanPort_getLsbD (p : Port) (ddr orv : Byte) (i : Nat) (ext : Byte) (drawn k : Nat)
    {ts : List Attachment} (listed : AnswersListed ts) :
    (scanPort p ddr orv i ext drawn ts).value.getLsbD k = (ext.getLsbD k && ts.all (attachmentBit k)) := by
  induction ts generalizing i ext drawn with
  | nil => exact (Bool.and_true _).symm
  | cons t ts ih =>
    obtain ⟨⟨enabled, reads⟩, listed'⟩ := List.forall_mem_cons.1 listed
    have later := fun i ext drawn => ih i ext drawn listed'
    have answer := askRead_value (t := (askEnabled t drawn).attachment) (by rwa [askEnabled_reads])
    rw [askEnabled_reads] at answer
    have asked := askEnabled_value enabled drawn
    unfold scanPort
    simp only
    rw [List.all_cons, attachmentBit, ← asked]
    split
    · next on => rw [later, on, BitVec.getLsbD_and, answer, Bool.not_true, Bool.false_or, Bool.and_assoc]
    · next off => rw [later, Bool.eq_false_of_not_eq_true off, Bool.not_false, Bool.true_or, Bool.true_and]

/-- A port's bit comes from the output register or from the external source, as its direction bit says. -/
theorem portValue_getLsbD (orv ddr ext : Byte) {k : Nat} (hk : k < 8) :
    (portValue orv ddr ext).getLsbD k = if ddr.getLsbD k then orv.getLsbD k else ext.getLsbD k := by
  rw [portValue, BitVec.getLsbD_or, BitVec.getLsbD_and, BitVec.getLsbD_and, BitVec.getLsbD_not,
    decide_eq_true hk]
  cases ddr.getLsbD k <;> simp

/-- Settles O52: an input bit is the AND over the list, which starts from all ones. -/
theorem portRead : Obligations.PortRead := by
  intro p v listed k hk
  have ones : (0xFF#8).getLsbD k = true := by
    have allOnes : 0xFF#8 = BitVec.allOnes 8 := rfl
    rw [allOnes, BitVec.getLsbD_allOnes, decide_eq_true hk]
  have external := scanPort_getLsbD p (v.ddrReg p) (v.orReg p) 0 0xFF#8 v.drawn k listed
  rw [ones, Bool.true_and] at external
  rw [Via.readPort, portValue_getLsbD _ _ _ hk, external]
  rfl

end Sys2Proof.Machine
end

section
/-! Taking a trap and returning from it (R610 to R614, R625, R630, R631): an entry is three pushes, which its
return undoes, and it masks the IRQ pulses after it. -/

namespace Sys2Proof.Machine

/-! ### The entry (R611) -/

section
variable {v : Word} (hv : 0xFFFA#16 ≤ v ∧ 0xFFFA#16 ≤ v + 1) (b : Bool) {s : State}
include hv

/-- The entry with the bytes that R611 pushes. -/
theorem trapEnter_saves (s : State) :
    trapEnter v b s = { s with
      ram := Memory.write (Memory.write (Memory.write s.ram (256 + s.sp.toNat) (hi s.pc))
        (256 + (s.sp - 1).toNat) (lo s.pc)) (256 + (s.sp - 2).toNat)
        ((s.p ||| 0x04#8) &&& 0xCF#8 ||| 0x20#8 ||| (if b then 0x10#8 else 0x00#8))
      sp := s.sp - 3
      p := s.p ||| 0x04#8
      pc := vectorWord v s } := by
  have third : s.sp - 1 - 1 = s.sp - 2 := by bv_omega
  have left : s.sp - 2 - 1 = s.sp - 3 := by bv_omega
  rw [trapEnter_eq hv.1 hv.2, third, left]
  rfl

theorem trapEnter_pc (s : State) : (trapEnter v b s).pc = vectorWord v s := by
  rw [trapEnter_saves hv]

theorem trapEnter_sp (s : State) : (trapEnter v b s).sp = s.sp - 3 := by
  rw [trapEnter_saves hv]

theorem trapEnter_cyclesRemaining (s : State) : (trapEnter v b s).cyclesRemaining = s.cyclesRemaining := by
  rw [trapEnter_saves hv]

theorem trapEnter_flag (f : Flag) (s : State) :
    (trapEnter v b s).flag f = if f = .i then true else s.flag f := by
  rw [trapEnter_eq hv.1 hv.2]
  exact getFlag_putFlag f .i true s.p

theorem trapEnter_wf (wf : Memory.wf s.ram = true) : Memory.wf (trapEnter v b s).ram = true := by
  rw [trapEnter_eq hv.1 hv.2]
  exact Memory.wf_write (Memory.wf_write (Memory.wf_write wf ..) ..) ..

/-- An entry leaves every plain cell but the three it pushes to as it reads. -/
theorem trapEnter_byteAt {a : Word} (plain : plainAt a s) (first : a.toNat ≠ 256 + s.sp.toNat)
    (second : a.toNat ≠ 256 + (s.sp - 1).toNat) (third : a.toNat ≠ 256 + (s.sp - 2).toNat) :
    byteAt a (trapEnter v b s) = byteAt a s := by
  let saved := push (lo s.pc) (push (hi s.pc) s)
  let masked := saved.setFlag .i true
  have savedSp : masked.sp = s.sp - 2 := by
    simp only [masked, saved, push_eq, State.setFlag_sp]
    bv_omega
  have savedPlain : plainAt a masked := push_plainAt _ (push_plainAt _ plain)
  have stacked : sameMachine (push (trapStatus b masked.p) masked) (trapEnter v b s) := by
    rw [trapEnter_eq hv.1 hv.2]
    simp only [masked, saved, push_eq]
    exact sameMachine_refl _
  calc byteAt a (trapEnter v b s)
    _ = byteAt a (push (trapStatus b masked.p) masked) := byteAt_of_sameMachine stacked a
    _ = byteAt a masked := push_byteAt _ savedPlain (savedSp ▸ third)
    _ = byteAt a saved := byteAt_of_sameMachine (s := saved) (t := masked) (sameMachine_refl saved) a
    _ = byteAt a (push (hi s.pc) s) := push_byteAt _ (push_plainAt _ plain) second
    _ = byteAt a s := push_byteAt _ plain first

end

/-- Settles O35: an entry is three pushes and a read of the vector, and a pulse is an entry or nothing. -/
theorem trapEntry : Obligations.TrapEntry := by
  refine fun s => ⟨fun b => trapEnter_saves irqVector_le b s, trapEnter_saves nmiVector_le false s,
    irqPulse_lost, fun clear => ?irq, ?nmi⟩
  case irq =>
    rw [irqPulse_taken clear, trapEnter_saves irqVector_le]
    rfl
  case nmi =>
    rw [nmiPulse, trapEnter_saves nmiVector_le]
    rfl

/-! ### BRK (R328, R612) -/

theorem exec_brk (s : State) : exec .brk s = .next ((breakTrap s).spend Instr.brk.opcode 0) := rfl

theorem breakTrap_params (s : State) : (breakTrap s).params = s.params := by
  rw [breakTrap, trapEnter_eq irqVector_le.1 irqVector_le.2]

/-- The parameters give BRK its 7 cycles (R328). -/
theorem costOf_brk {s : State} (params : ParamsOk s) : costOf .brk s 0 = 7 := by
  simp only [ParamsOk, Params.wf, Params.wfBaseCycles, Bool.and_eq_true, decide_eq_true_eq] at params
  have listed : s.params.baseCycles.getD 0 1 = 7 := by tauto
  exact listed

/-- Settles O36: the padding byte is skipped by moving `PC`, which the entry then saves. -/
theorem breakResult : Obligations.BreakResult := by
  refine fun s => ⟨?result, costOf_brk, fun t a ran plain first second third => ?frame⟩
  case result => exact exec_of_runPlain (f := breakTrap) rfl (breakTrap_params s)
  case frame =>
    cases (exec_brk s).symm.trans ran
    calc byteAt a ((breakTrap s).spend Instr.brk.opcode 0)
      _ = byteAt a (breakTrap s) := byteAt_spend _ 0 _ a
      _ = byteAt a { s with pc := s.pc + 1 } :=
        trapEnter_byteAt (s := { s with pc := s.pc + 1 }) irqVector_le true plain first second third
      _ = byteAt a s := byteAt_of_sameMachine (t := { s with pc := s.pc + 1 }) (sameMachine_refl s) a

/-! ### The return (R630, R631) -/

/-- Of the status that an entry pushes, a return takes every flag but `B` and `U` (R329, R611). -/
theorem getFlag_rtiStatus_trapStatus (f : Flag) (b : Bool) (p : Byte) :
    getFlag f (rtiStatus (trapStatus b p)) =
      if f = .b then false else if f = .u then true else getFlag f p := by
  cases b <;> cases f <;> simp [getFlag, rtiStatus, trapStatus, Flag.pos]

section
variable {v : Word} (hv : 0xFFFA#16 ≤ v ∧ 0xFFFA#16 ≤ v + 1) (b : Bool) {s : State}
  (wf : Memory.wf s.ram = true)
include hv wf

/-- A return pulls from the three cells that the entry before it pushed to, which differ even when `SP`
wraps. -/
theorem trapReturn_trapEnter :
    trapReturn (trapEnter v b s) = { trapEnter v b s with
      sp := s.sp
      pc := s.pc
      p := rtiStatus (trapStatus b (putFlag .i true s.p)) } := by
  have status : s.sp - 1 - 1 - 1 + 1 = s.sp - 1 - 1 := by bv_omega
  have low : s.sp - 1 - 1 + 1 = s.sp - 1 := by bv_omega
  have high : s.sp - 1 + 1 = s.sp := by bv_omega
  have lowStatus : 256 + (s.sp - 1).toNat ≠ 256 + (s.sp - 1 - 1).toNat := by bv_omega
  have highStatus : 256 + s.sp.toNat ≠ 256 + (s.sp - 1 - 1).toNat := by bv_omega
  have highLow : 256 + s.sp.toNat ≠ 256 + (s.sp - 1).toNat := by bv_omega
  have wfHigh := Memory.wf_write wf (256 + s.sp.toNat) (hi s.pc)
  have wfLow := Memory.wf_write wfHigh (256 + (s.sp - 1).toNat) (lo s.pc)
  simp only [trapReturn_eq, trapEnter_eq hv.1 hv.2, status, low, high, Memory.read_write_self wfLow,
    Memory.read_write_ne _ _ lowStatus, Memory.read_write_self wfHigh, Memory.read_write_ne _ _ highStatus,
    Memory.read_write_ne _ _ highLow, Memory.read_write_self wf, word_hi_lo]

theorem trapReturn_trapEnter_flag (f : Flag) :
    (trapReturn (trapEnter v b s)).flag f =
      if f = .b then false else if f = .u then true else if f = .i then true else s.flag f := by
  rw [trapReturn_trapEnter hv b wf, State.flag, getFlag_rtiStatus_trapStatus, getFlag_putFlag]
  rfl

end

theorem trapReturn_addCycles (n : Nat) (s : State) :
    trapReturn (s.addCycles n) = (trapReturn s).addCycles n := by
  simp only [trapReturn_eq]
  rfl

/-! ### Two pulses (R625) -/

/-- After a pulse is delivered `I` is set, whether or not the pulse was lost. -/
theorem deliver_masks (p : Pulse) (s : State) : (deliver s p).flag .i = true := by
  cases p with
  | nmi => exact trapEnter_flag nmiVector_le false .i s
  | irq =>
    cases masked : s.flag .i with
    | true => rwa [deliver, irqPulse_lost masked]
    | false =>
      rw [deliver, irqPulse_taken masked]
      exact trapEnter_flag irqVector_le false .i s

/-- An IRQ pulse right after another pulse is lost. -/
theorem deliverAll_then_irq (p : Pulse) (s : State) : deliverAll [p, .irq] s = deliverAll [p] s :=
  irqPulse_lost (deliver_masks p s)

/-- A vector holds the same word after an entry. -/
theorem vectorWord_trapEnter {v u : Word} (hv : 0xFFFA#16 ≤ v ∧ 0xFFFA#16 ≤ v + 1)
    (hu : 0xFFFA#16 ≤ u ∧ 0xFFFA#16 ≤ u + 1) (b : Bool) (n : Nat) (s : State) :
    vectorWord u ((trapEnter v b s).addCycles n) = vectorWord u s := by
  obtain ⟨-, -, -, rom, cart, -, -, -, -, params, -⟩ := trapEnter_frame hv.1 hv.2 b s
  exact congrArg₂ word (byteAt_vector hu.2 rom cart params) (byteAt_vector hu.1 rom cart params)

/-- The entry of an NMI pulse right after a taken IRQ pulse nests on the IRQ's. -/
theorem deliverAll_irq_nmi {s : State} (clear : s.flag .i = false) :
    deliverAll [.irq, .nmi] s =
      (trapEnter nmiVector false ((trapEnter irqVector false s).addCycles 7)).addCycles 7 :=
  congrArg nmiPulse (irqPulse_taken clear)

/-- Settles O38: the three pulls find the bytes of the three pushes, for the nested entry too. -/
theorem entriesAndReturns : Obligations.EntriesAndReturns := by
  refine fun s wf => ⟨fun v b vector => ?roundTrip, deliverAll_then_irq .irq s, deliverAll_then_irq .nmi s,
    fun clear => ?nested⟩
  case roundTrip =>
    have hv : 0xFFFA#16 ≤ v ∧ 0xFFFA#16 ≤ v + 1 := by
      obtain rfl | rfl := vector
      · exact nmiVector_le
      · exact irqVector_le
    have flags := trapReturn_trapEnter_flag hv b wf
    obtain ⟨a, x, y, -⟩ := trapEnter_frame hv.1 hv.2 b s
    have returned := trapReturn_trapEnter hv b wf
    refine ⟨by rw [returned], by rw [returned], flags .i, flags .b, flags .u, ?_, ?_, ?_, fun f i b u => ?_⟩
    · rwa [returned]
    · rwa [returned]
    · rwa [returned]
    · rw [flags, if_neg b, if_neg u, if_neg i]
  case nested =>
    let first := (trapEnter irqVector false s).addCycles 7
    have wfFirst : Memory.wf first.ram = true := trapEnter_wf irqVector_le false wf
    have firstPc : first.pc = vectorWord irqVector s := trapEnter_pc irqVector_le false s
    have firstSp : first.sp = s.sp - 3 := trapEnter_sp irqVector_le false s
    have firstCycles : first.cyclesRemaining = s.cyclesRemaining + 7 :=
      congrArg (· + 7) (trapEnter_cyclesRemaining irqVector_le false s)
    have six : s.sp - 3 - 3 = s.sp - 6 := by bv_omega
    have returned := trapReturn_trapEnter nmiVector_le false wfFirst
    simp only [deliverAll_irq_nmi clear, trapReturn_addCycles, State.addCycles_pc, State.addCycles_sp,
      State.addCycles_cyclesRemaining]
    refine ⟨?pc, ?sp, ?cycles, ?backPc, ?backSp⟩
    case pc =>
      rw [trapEnter_pc nmiVector_le, vectorWord_trapEnter irqVector_le nmiVector_le]
      rfl
    case sp =>
      rw [trapEnter_sp nmiVector_le, firstSp, six]
    case cycles =>
      rw [trapEnter_cyclesRemaining nmiVector_le, firstCycles]
    case backPc =>
      rw [returned, firstPc]
      rfl
    case backSp =>
      rw [returned, firstSp]

end Sys2Proof.Machine
end

section
/-! The machine reset (R670 to R673, R75). -/

namespace Sys2Proof.Machine

theorem vectorWord_resetDevices (k : ResetKind) (s : State) :
    vectorWord resetVector (resetDevices k s) = vectorWord resetVector s :=
  congrArg₂ word (byteAt_vector resetVector_le.2 rfl rfl rfl) (byteAt_vector resetVector_le.1 rfl rfl rfl)

/-- The VIA after a reset: its registers as after a cold reset, its lists kept, and each attachment told of the
reset and then of the control lines (R672, log entry 36). -/
theorem Via.reset_eq (v : Via) :
    v.reset = { Via.cold with
      portA := v.portA
      portB := v.portB
      drawn := v.drawn
      notices := v.notices ++ (callAll .a v.portA .reset ++ callAll .b v.portB .reset) ++
        (callAll .a v.portA (.updateControlLines true true true true) ++
          callAll .b v.portB (.updateControlLines true true true true)) } := by
  have calls (old a b c d : List Notice) : old ++ a ++ b ++ c ++ d = old ++ (a ++ b) ++ (c ++ d) := by
    simp only [List.append_assoc]
  rw [← calls]
  rfl

/-- Settles O48: the devices are put at their reset values, and the CPU then reads its vector from ROM or Cart,
which no reset changes. -/
theorem resetResult : Obligations.ResetResult := by
  intro k s
  rw [machineReset, cpuReset_eq, vectorWord_resetDevices]
  cases k <;> simp only [resetDevices, Via.reset_eq] <;> rfl

end Sys2Proof.Machine
end

section
/-! Decimal ADC and SBC with a digit above 9 (U3): the result is the next free value, whatever it is. -/

namespace Sys2Proof.Machine

theorem readOperand_bcdDrawn (o : Operand) (s : State) : (readOperand o s).2.bcdDrawn = s.bcdDrawn := by
  obtain ⟨-, -, -, -, -, -, -, -, -, -, -, -, -, -, -, drawn⟩ := readOperand_leaves o s
  exact drawn

/-- What `A` and the operand need for the result to be free: decimal mode and a digit above 9 in one of them. -/
theorem bcdOpen_of_invalid {m : Byte} {s : State} (on : s.decimal = true)
    (digit : validBcd s.a = false ∨ validBcd m = false) : bcdOpen m s = true := by
  have invalid : (validBcd s.a && validBcd m) = false := Bool.and_eq_false_iff.2 digit
  rw [bcdOpen, on, invalid]
  rfl

section
variable {o : Operand} {m : Byte} {s : State}

theorem addWithCarry_open (openDigits : bcdOpen m s = true) : addWithCarry m s = s.putFreeAlu :=
  if_pos openDigits

theorem subWithBorrow_open (openDigits : bcdOpen m s = true) : subWithBorrow m s = s.putFreeAlu :=
  if_pos openDigits

/-- A form whose adder draws the free value. -/
theorem exec_of_putFreeAlu {i : Instr} {f : Byte → State → State}
    (meaning : exec i s = runRead i.opcode o f s)
    (answers : f (readOperand o s).1 (readOperand o s).2 = (readOperand o s).2.putFreeAlu) :
    exec i s = .next { (readOperand o s).2 with
      a := (Config.bcdResult s.bcdDrawn).value
      p := aluBits (Config.bcdResult s.bcdDrawn) s.p
      bcdDrawn := s.bcdDrawn + 1
      cyclesRemaining := costOf i s (crossPenalty (o.crossed s)) } := by
  rw [State.putFreeAlu, State.putAlu, readOperand_p, readOperand_bcdDrawn] at answers
  exact exec_of_runRead meaning answers rfl

end

/-- Settles O23: both adders draw the same free value, and what it does not name is as for valid digits. -/
theorem openDecimalResult : Obligations.OpenDecimalResult := by
  rintro o i s _ form flag implemented digit rfl
  have openDigits : bcdOpen (readOperand o s).1 (readOperand o s).2 = true := by
    refine bcdOpen_of_invalid ?_ (by rwa [readOperand_a])
    rw [readOperand_decimal, decimal_eq_true flag implemented]
  obtain ⟨c, v, z, n, others⟩ := aluBits_flags (Config.bcdResult s.bcdDrawn) s.p
  refine ⟨_, ?answer, n, z, c, v, others⟩
  obtain adc | sbc := form
  · exact exec_of_putFreeAlu (exec_of_adcForm adc s) (addWithCarry_open openDigits)
  · exact exec_of_putFreeAlu (exec_of_sbcForm sbc s) (subWithBorrow_open openDigits)

end Sys2Proof.Machine
end
